-- ==== Sys2Proof/Word.lean ====
section
/-! DEFINITION. The words of the DT64: bytes of the register window, 16-bit and 32-bit counts. -/

namespace Sys2Proof

/-- A byte of the register window, of a transaction or of a readout record. -/
abbrev Byte := BitVec 8

/-- A 16-bit count: the epoch (R45), a host tag (R55). -/
abbrev Half := BitVec 16

/-- A 32-bit count: completion, sequence, boot, checkpoint numbers, the configuration generation. -/
abbrev Word := BitVec 32

/-- An address of the 64-byte register window (R184). -/
abbrev Address := BitVec 6

/-- The byte that holds a number below 256. -/
abbrev byteOf (n : Nat) : Byte := BitVec.ofNat 8 n

/-- A 16-bit number, least significant byte first (R195). -/
def Half.bytes (h : Half) : List Byte := [h.setWidth 8, (h >>> 8).setWidth 8]

/-- A 32-bit number, least significant byte first (R195). -/
def Word.bytes (w : Word) : List Byte :=
  [w.setWidth 8, (w >>> 8).setWidth 8, (w >>> 16).setWidth 8, (w >>> 24).setWidth 8]

/-- The 16-bit number of two bytes, low byte first. -/
def Half.ofBytes (lo hi : Byte) : Half := lo.setWidth 16 ||| (hi.setWidth 16 <<< 8)

/-- The 32-bit number of four bytes, low byte first. -/
def Word.ofBytes (b0 b1 b2 b3 : Byte) : Word :=
  b0.setWidth 32 ||| (b1.setWidth 32 <<< 8) ||| (b2.setWidth 32 <<< 16) ||| (b3.setWidth 32 <<< 24)

end Sys2Proof
end

