-- ==== Sys2Proof/Syntax.lean ====
section
/-! DEFINITION. The commands of the DT64: one constructor for each row of spec/opcode_table.json, with what
the row's event carries. The commands of the host (R188) carry no operand: they read the argument registers
and the operand buffer as they stand. -/

namespace Sys2Proof

inductive Instr where
  /-- TRANSACTION_START (R183): nCS falls (`none`), and then the first byte is complete. -/
  | transactionStart (first : Option Byte)
  /-- REGISTER_WRITE (R184, R185, R188): a write data byte is complete at the port's address. -/
  | registerWrite (data : Byte)
  /-- MULTI_BYTE_READ_CAPTURE (R184, R185): a read data byte is complete and the read comes to `addr`; a wide
  register whose lowest byte stands there is captured. -/
  | multiByteReadCapture (addr : Address)
  /-- OPERAND (R14): a write data byte is complete at OPERAND. -/
  | operand (data : Byte)
  /-- READOUT (R190): a read data byte is complete at READOUT. -/
  | readout
  /-- EVENTS (R192): a write data byte is complete at one of the two bytes of EVENTS. -/
  | events (data : Byte)
  /-- EVENT_ENABLE (R193): a write data byte is complete at one of the two bytes of EVENT_ENABLE. -/
  | eventEnable (data : Byte)
  /-- OPEN (R58), code 0x01 written to COMMAND. -/
  | openDraft
  /-- LEG (R62), code 0x02. -/
  | leg
  /-- FIELD (R63), code 0x03. -/
  | field
  /-- SUBMIT (R68), code 0x04. -/
  | submit
  /-- DISCARD (R71), code 0x05. -/
  | discard
  /-- CANCEL (R81), code 0x06. -/
  | cancel
  /-- WRITE_PENDING (R46), code 0x07. -/
  | writePending
  /-- ACK_STATUS (R35), code 0x08. -/
  | ackStatus
  /-- POP (R148), code 0x09. -/
  | pop
  /-- PIN (R159), code 0x0A. -/
  | pin
  /-- UNPIN (R160), code 0x0B. -/
  | unpin
  /-- SOFT_RESET (R113), code 0x3F. -/
  | softReset
  /-- GATE_OPEN (R124), code 0x10. -/
  | gateOpen
  /-- GATE_CLOSE (R125), code 0x11. -/
  | gateClose
  /-- FOLD_NOW (R123), code 0x12. -/
  | foldNow
  /-- CLEAR_FAULT (R127), code 0x13. -/
  | clearFault
  /-- ACK_STRAY (R128), code 0x14. -/
  | ackStray
  /-- LOAD TOTALISER (R37), code 0x21. -/
  | loadTotaliser
  /-- LOAD CONSTANT (R54), code 0x22. -/
  | loadConstant
  /-- LOAD CHANNEL (R140), code 0x23. -/
  | loadChannel
  /-- LOAD QUEUE_ENTRY (R84), code 0x24. -/
  | loadQueueEntry
  /-- LOAD JOURNAL (R152), code 0x25. -/
  | loadJournal
  /-- LOAD CHECKPOINT (R162), code 0x26. -/
  | loadCheckpoint
  /-- LOAD DRAFT (R72), code 0x27. -/
  | loadDraft
  /-- LOAD STARTUP_REPORT (R182), code 0x28. -/
  | loadStartupReport
  /-- UNKNOWN_COMMAND (R189): a code that names no command is written to COMMAND. -/
  | unknownCommand (code : Byte)
  /-- EDGE (R120, R199): a level change on P0 to P7 is detected, its time measured in microseconds. -/
  | edge (channel : Fin 8) (rising : Bool) (time : Nat)
  /-- CFGEN_CHANGE (R194): the CFGEN pin has held a level for the filter time. -/
  | cfgenChange (active : Bool)
  /-- PFAIL_ASSERTION (R170, R194): the PFAIL pin has been held low for the filter time. -/
  | pfailAssertion
  /-- PFAIL_DEASSERTION (R194): the PFAIL pin has been held high for the filter time. -/
  | pfailDeassertion
  /-- RESET_LINE_ASSERTION (R174, R199); `written` says whether the NV write under way, if any, had
  finished writing (the cut falls in its read-back). -/
  | resetLineAssertion (written : Bool)
  /-- RESET_LINE_RELEASE (R199, R194): the pin returns high; the levels of CFGEN and PFAIL at that moment. -/
  | resetLineRelease (cfgen pfail : Bool)
  /-- POWER_LOSS (R174); `written` as for RESET_LINE_ASSERTION. -/
  | powerLoss (written : Bool)
  /-- POWER_ON (R174, R194): supply returns; the levels of CFGEN and PFAIL at that moment. -/
  | powerOn (cfgen pfail : Bool)
  /-- STARTUP_WRITE_COMPLETION (R181): the start-up write under way is read back, and matches or not. -/
  | startupWriteCompletion (matched : Bool)
  /-- TAKE (R93): the engine takes an item. -/
  | take
  /-- COMMIT_COMPLETION (R166): the retiring control block write is read back and matches. -/
  | commitCompletion
  /-- ATTEMPT_FAILURE (R167): a commit read-back differs from what was written. -/
  | attemptFailure
  /-- COMMIT_TIMEOUT (R167): an attempt is not complete 4 ms after its step 1 began. -/
  | commitTimeout
  /-- TRANSACTION_END (R183): nCS rises. -/
  | transactionEnd
  /-- COMMIT_READ_BACK (R166): a commit write before the retiring one completes and matches. -/
  | commitReadBack
  deriving DecidableEq, Repr

end Sys2Proof
end

