-- ==== Sys2Proof/WellFormed.lean ====
section
/-! DEFINITION. Which commands can be sent at all: the checks on what a command carries. -/

namespace Sys2Proof

/-- The command codes of R188. -/
def commandCodes : List Byte :=
  [0x01#8, 0x02#8, 0x03#8, 0x04#8, 0x05#8, 0x06#8, 0x07#8, 0x08#8, 0x09#8, 0x0A#8, 0x0B#8, 0x3F#8,
   0x10#8, 0x11#8, 0x12#8, 0x13#8, 0x14#8,
   0x21#8, 0x22#8, 0x23#8, 0x24#8, 0x25#8, 0x26#8, 0x27#8, 0x28#8]

/-- A well-formed command: an unknown code names no command (R189). Every other operand is legal at every
value of its type. -/
def Instr.wellFormed : Instr → Bool
  | .unknownCommand code => !commandCodes.contains code
  | _ => true

end Sys2Proof
end

