-- ==== Sys2Proof/Decode.lean ====
section
/-! DEFINITION. The reading of table words. No row of spec/opcode_table.json gives bits: the block's commands
are events, not words, so no word spells one. -/

namespace Sys2Proof

/-- The command that a word spells by the table's bits: none, for every word, because no row gives bits. -/
def decodeTableWord (_nbits _w : Nat) : Option Instr := none

end Sys2Proof
end

