-- ==== Sys2Proof/Config.lean ====
section
/-! DEFINITION. The numbers the part fixes, and the free values: what the spec leaves unstated after an
event that the part completes. A free value has no body, so nothing can be proved of it but what holds of
every value. -/

namespace Sys2Proof

/-- FREE VALUE (log 9). The byte SDO carries in data byte `i` of the `n`-th write transaction: R183 states
what SDO carries in the first byte and in a read, not in the data bytes of a write. -/
opaque Config.sdoInWrite (n i : Nat) : Byte

/-- FREE VALUE (log 15). The value that the effect of a CONFIGURE_TOTALISER carries at the scale its totaliser
had at the take (R143), where the new value, of this many units at the new scale, has no exact form there. -/
opaque Config.effectAtOldScale (value : Int) (newScale oldScale : Nat) : Int

/-- FREE VALUE (log 10). Which control block copy start-up chooses (true: A) when both pass their check and
R175's table ranks neither: counters further apart than one, or equal counters with boot numbers 2^31 apart. -/
opaque Config.unrankedControlIsA (counterA bootA counterB bootB : Word) : Bool

/-- R73: the queue holds at most 16 items. -/
def Config.queueCapacity : Nat := 16

/-- R75: the leg pool holds 48 leg records. -/
def Config.legPool : Nat := 48

/-- R55, R62: a draft holds at most 8 legs. -/
def Config.draftLegs : Nat := 8

/-- R146: a normal item is taken only while the journal holds 30 entries or fewer; at 31 the engine is HELD. -/
def Config.heldAt : Nat := 31

/-- R141: the ring has 32 positions. -/
def Config.journalCapacity : Nat := 32

/-- R117: the unfolded and stray counts saturate at 65535. -/
def Config.countCeiling : Nat := 65535

/-- R90, R91: after four folds taken while a head waited, the head is taken. -/
def Config.fairFolds : Nat := 4

/-- R2: the capacity of a totaliser, 10^18 - 1 units. -/
def Config.capacity : Int := 999999999999999999

/-- R186: the ID register. -/
def Config.partId : Byte := 0x4E#8

end Sys2Proof
end

