-- ==== Sys2Proof/Machine/State.lean ====
section
/-! DEFINITION. The state of the DT64 as plain data: every register, buffer, table, queue, ring and mark that
spec/ gives the part, the areas of its NV array, and the queue of waiting commands. INVENTORY.md lists each
field with its rule and its reset value. -/

namespace Sys2Proof.Machine

/-! ### Decimal values (Chapter 1) -/

/-- A decimal value (R1): `value` is the sign times the coefficient, so zero is +0 by construction, and
`scale` counts the fraction digits. -/
structure Dec where
  value : Int
  scale : Nat
  deriving DecidableEq, Repr

/-- A bank of 32 constant entries, each invalid (none) or a signed decimal (R43). -/
abbrev Bank := Vector (Option Dec) 32

/-! ### Totaliser records (Chapter 2) -/

/-- The state of a totaliser record (R18). -/
inductive TotState where
  | unused | active | faulted
  deriving DecidableEq, Repr

/-- The kind of a totaliser (R19). -/
inductive Kind where
  | monotonic | resettable | balance
  deriving DecidableEq, Repr

/-- The rounding mode of a totaliser (R8, R9). -/
inductive Rounding where
  | halfUp | halfEven | truncate | carry
  deriving DecidableEq, Repr

/-- The policy of a totaliser at its bounds (R30 to R32). -/
inductive Policy where
  | saturate | wrap | reject
  deriving DecidableEq, Repr

/-- The fields of a totaliser record that are kept in NV (R17); limits and value in units, the residue in
sub-units of scale + 8. -/
structure Record where
  state    : TotState
  kind     : Kind
  scale    : Nat
  rounding : Rounding
  policy   : Policy
  upper    : Option Int
  lower    : Option Int
  value    : Int
  residue  : Nat
  revision : Word
  deriving DecidableEq, Repr

/-- R18: the defaults an UNUSED record holds, with revision 0. -/
def Record.unused : Record :=
  { state := .unused, kind := .balance, scale := 0, rounding := .truncate, policy := .reject,
    upper := none, lower := none, value := 0, residue := 0, revision := 0 }

/-- R18, R23: a FAULTED record holds the defaults of an UNUSED one but for its state. -/
def Record.lost : Record := { Record.unused with state := .faulted }

/-- A published totaliser: its record and the three sticky status flags (R17). -/
structure Totaliser where
  data    : Record
  atUpper : Bool
  atLower : Bool
  refused : Bool
  deriving DecidableEq, Repr

/-- The status flags (R34). -/
inductive StatusFlag where
  | atUpper | atLower | refused
  deriving DecidableEq, Repr

/-! ### Work: drafts and queued items (Chapters 4 and 5) -/

inductive LegOp where
  | add | subtract | set | clear
  deriving DecidableEq, Repr

/-- Where the amount of a leg comes from (R60). -/
inductive Source where
  | immediate (operand : Dec)
  | constant (k : Fin 32)
  | totaliser (t : Fin 64)
  | none
  deriving DecidableEq, Repr

/-- The relations of a guard (R12). -/
inductive Relation where
  | lt | le | gt | ge | eq | ne
  deriving DecidableEq, Repr

structure Guard where
  totaliser : Fin 64
  relation  : Relation
  threshold : Fin 32
  deriving DecidableEq, Repr

/-- A leg record (R60). -/
structure Leg where
  target     : Fin 64
  op         : LegOp
  source     : Source
  multiplier : Option (Fin 32)
  guard      : Option Guard
  deriving DecidableEq, Repr

/-- What a false guard does (R100). -/
inductive GuardMode where
  | skip | require
  deriving DecidableEq, Repr

/-- The fields of a CONFIGURE_TOTALISER (R64): each not carried (none) or carried. A carried limit is absent
(`some none`) or a value at the scale the host stated. -/
structure TotFields where
  kind     : Option Kind
  scale    : Option Nat
  rounding : Option Rounding
  policy   : Option Policy
  active   : Option Bool
  upper    : Option (Option Dec)
  lower    : Option (Option Dec)
  initial  : Option Dec
  deriving DecidableEq, Repr

def TotFields.empty : TotFields :=
  { kind := none, scale := none, rounding := none, policy := none, active := none,
    upper := none, lower := none, initial := none }

/-- The edges a channel selects (R120). -/
inductive EdgeSelect where
  | rising | falling | both
  deriving DecidableEq, Repr

/-- The direction of a channel's folds (R116). -/
inductive Direction where
  | add | subtract
  deriving DecidableEq, Repr

/-- The fields of a CONFIGURE_CHANNEL (R65): each not carried (none) or carried. -/
structure ChannelFields where
  enabled   : Option Bool
  edge      : Option EdgeSelect
  spacing   : Option Nat
  target    : Option (Fin 64)
  quantum   : Option Dec
  direction : Option Direction
  threshold : Option Nat
  deriving DecidableEq, Repr

def ChannelFields.empty : ChannelFields :=
  { enabled := none, edge := none, spacing := none, target := none, quantum := none,
    direction := none, threshold := none }

/-- The header and body of a draft by its kind (R55). A selection is the set of totalisers whose bits are 1. -/
inductive Body where
  | posting (epoch : Half) (mode : GuardMode) (legs : List Leg)
  | configureTotaliser (target : Fin 64) (fields : TotFields)
  | configureChannel (target : Fin 8) (fields : ChannelFields)
  | switch
  | checkpoint (selection : BitVec 64)
  deriving DecidableEq, Repr

/-- An OPEN draft (R55). -/
structure Draft where
  tag  : Half
  body : Body
  deriving DecidableEq, Repr

/-- An item of the posting queue (R74); `active` is false while it is QUEUED. -/
structure QueueItem where
  seq    : Word
  active : Bool
  draft  : Draft
  deriving DecidableEq, Repr

/-- The posting queue (R73 to R83). The legs of a posting are held in its draft; the leg pool's free count is
computed from them (log 26). `nextSeq` is none when the counter is EXHAUSTED (R76). -/
structure Queue where
  items       : List QueueItem
  nextSeq     : Option Word
  spaceWanted : Bool
  deriving DecidableEq, Repr

/-! ### The constant table (Chapter 3) -/

/-- The constant table (R43 to R49); the lock, while LOCKED, names its holder. -/
structure Constants where
  active  : Bank
  pending : Bank
  epoch   : Half
  lock    : Option Word
  deriving DecidableEq, Repr

/-! ### Pulse channels (Chapter 7) -/

/-- The stored configuration of a channel (R116); spacing in units of 10 microseconds. -/
structure ChannelConfig where
  enabled   : Bool
  edge      : EdgeSelect
  spacing   : Nat
  target    : Fin 64
  quantum   : Dec
  direction : Direction
  threshold : Nat
  deriving DecidableEq, Repr

/-- R116: the values after format. -/
def ChannelConfig.formatted : ChannelConfig :=
  { enabled := false, edge := .rising, spacing := 0, target := 0, quantum := ⟨0, 0⟩,
    direction := .add, threshold := 1 }

inductive ChannelState where
  | disabled | idle | counting | draining | faulted
  deriving DecidableEq, Repr

/-- A channel's runtime record (R117). `lastEdge` is a measured time in microseconds (log 8). -/
structure ChannelRun where
  state          : ChannelState
  gateOpen       : Bool
  unfolded       : Nat
  stray          : Nat
  request        : Bool
  inFlight       : Option Nat
  overrun        : Bool
  configInFlight : Bool
  lastEdge       : Option Nat
  deriving DecidableEq, Repr

/-- R118: the runtime record a channel has at the end of start-up, by whether it is enabled. -/
def ChannelRun.fresh (enabled : Bool) : ChannelRun :=
  { state := if enabled then .idle else .disabled, gateOpen := false, unfolded := 0, stray := 0,
    request := false, inFlight := none, overrun := false, configInFlight := false, lastEdge := none }

structure Channel where
  config : ChannelConfig
  run    : ChannelRun
  deriving DecidableEq, Repr

/-! ### The journal (Chapter 8) -/

inductive SourceKind where
  | posting | configureTotaliser | configureChannel | switch | checkpoint | fold | emergencyFold | damaged
  deriving DecidableEq, Repr

inductive ItemOutcome where
  | applied | rejected
  deriving DecidableEq, Repr

/-- The rejection reasons (R144). -/
inductive Reason where
  | epochMismatch | notActive | badConstant | guardFailed | kind | direction | limit
  | protected_ | badConfig | outOfLimits | bound | channelBusy | noSlot
  deriving DecidableEq, Repr

/-- The mark of an effect (R25). -/
inductive Mark where
  | none | saturated | wrapped | skipped
  deriving DecidableEq, Repr

/-- An effect record (R143): the new value and residue with the scale they are stated at. -/
structure Effect where
  target  : Fin 64
  value   : Int
  residue : Nat
  scale   : Nat
  mark    : Mark
  deriving DecidableEq, Repr

/-- A fold record (R143). -/
structure FoldRecord where
  channel : Fin 8
  count   : Nat
  overrun : Bool
  deriving DecidableEq, Repr

/-- A journal entry (R143); an absent field is none, an absent list is empty. -/
structure JournalEntry where
  number     : Word
  boot       : Option Word
  source     : SourceKind
  item       : Option (Word × Half)
  channel    : Option (Fin 8)
  outcome    : Option ItemOutcome
  reason     : Option Reason
  failingLeg : Option Nat
  epoch      : Option Half
  generation : Option Word
  effects    : List Effect
  folds      : List FoldRecord
  checkpoint : Option (Fin 4 × Word)
  deriving DecidableEq, Repr

/-- The journal in RAM (R141): the entries held, oldest first. -/
structure Journal where
  counter : Word
  head    : Word
  entries : List JournalEntry
  deriving DecidableEq, Repr

/-! ### Checkpoints (Chapter 9) -/

/-- A capture entry (R153). -/
structure CaptureEntry where
  index   : Fin 64
  state   : TotState
  value   : Int
  scale   : Nat
  residue : Nat
  deriving DecidableEq, Repr

/-- A capture (R153). -/
structure Capture where
  number     : Word
  completion : Word
  boot       : Word
  epoch      : Half
  generation : Word
  entries    : List CaptureEntry
  deriving DecidableEq, Repr

/-- A checkpoint slot: EMPTY (none) or FILLED, and its two marks in RAM (R153). -/
structure Slot where
  content  : Option Capture
  pinned   : Bool
  inFlight : Bool
  deriving DecidableEq, Repr

structure Checkpoints where
  slots   : Vector Slot 4
  counter : Word
  deriving DecidableEq, Repr

/-! ### The NV array and the commit (Chapter 10) -/

/-- The two copies of a pair (R164). -/
inductive CopyId where
  | a | b
  deriving DecidableEq, Repr

def CopyId.other : CopyId → CopyId
  | .a => .b
  | .b => .a

/-- What an area carries beside its content: a writer number or the format mark (R164). -/
inductive Writer where
  | format
  | number (n : Word)
  deriving DecidableEq, Repr

/-- An area or copy of the NV array: failing its check, or holding its content (R164). -/
inductive Area (α : Type) where
  | bad
  | good (writer : Writer) (content : α)
  deriving DecidableEq, Repr

structure Pair (α : Type) where
  a : Area α
  b : Area α
  deriving DecidableEq, Repr

/-- Which copy of a pair is current, or that neither is usable (R165). -/
inductive Current where
  | copy (c : CopyId)
  | neither
  deriving DecidableEq, Repr

/-- The content of the control block (R164). -/
structure ControlBlock where
  counter    : Word
  boot       : Word
  epoch      : Half
  generation : Word
  head       : Word
  checkpoint : Word
  deriving DecidableEq, Repr

/-- R176: the control block that format writes. -/
def ControlBlock.formatted : ControlBlock :=
  { counter := 1, boot := 0, epoch := 0, generation := 0, head := 1, checkpoint := 1 }

/-- A write of one table area in step 3 of a commit, or by start-up (R166, R176). -/
inductive TableWrite where
  | home (t : Fin 64) (copy : CopyId) (writer : Writer) (record : Record)
  | ring (entry : JournalEntry)
  | active (copy : CopyId) (writer : Writer) (bank : Bank)
  | channels (copy : CopyId) (writer : Writer) (configs : Vector ChannelConfig 8)
  | slot (i : Fin 4) (writer : Writer) (capture : Option Capture)
  deriving DecidableEq, Repr

/-- An intent (R166): the completion number, the new content of every area with the copy to be written, and
the new control block values with theirs. -/
structure Intent where
  number      : Word
  tables      : List TableWrite
  control     : ControlBlock
  controlCopy : CopyId
  deriving DecidableEq, Repr

/-- The intent area (R164, R177). -/
inductive IntentArea where
  | empty
  | bad
  | held (intent : Intent)
  deriving DecidableEq, Repr

/-- The NV array (R164). -/
structure NvArray where
  controlA : Area ControlBlock
  controlB : Area ControlBlock
  intent   : IntentArea
  home     : Vector (Pair Record) 64
  active   : Pair Bank
  channels : Pair (Vector ChannelConfig 8)
  ring     : Vector (Area JournalEntry) 32
  slots    : Vector (Area (Option Capture)) 4
  deriving DecidableEq, Repr

/-- Which copy of each pair is current (R165). -/
structure CurrentCopies where
  control  : CopyId
  home     : Vector Current 64
  active   : Current
  channels : Current
  deriving DecidableEq, Repr

/-- The step of an attempt (R166) whose write or read-back is under way; in `tables` the first write of the
list is. -/
inductive CommitStage where
  | intent
  | verify
  | tables (rest : List TableWrite)
  | retire
  deriving DecidableEq, Repr

/-- A commit under way (R166, R167). -/
structure Commit where
  intent : Intent
  second : Bool
  stage  : CommitStage
  deriving DecidableEq, Repr

/-- A write that start-up makes (R176, R177, R180). The `spoil` writes of a discard leave an area failing its
check. -/
inductive NvWrite where
  | table (w : TableWrite)
  | control (copy : CopyId) (block : ControlBlock)
  | noIntent
  | spoilHome (t : Fin 64) (copy : CopyId)
  | spoilActive (copy : CopyId)
  | spoilChannels (copy : CopyId)
  | spoilSlot (i : Fin 4)
  deriving DecidableEq, Repr

/-- The action of the start-up report (R176, R177). -/
inductive StartupAction where
  | formatted
  | clean
  | rolledForward (number : Word)
  | intentDiscarded
  deriving DecidableEq, Repr

/-- Start-up at its writes. `settle` holds the writes of a format, roll forward or discard still to make, the
first under way; when it is empty the boot number write is under way (R180). `control` is the control block
in force with the copy that holds it; `settled` and `settledCopy` are those once `settle` is done. -/
structure StartupJob where
  settle      : List NvWrite
  retried     : Bool
  control     : ControlBlock
  copy        : CopyId
  settled     : ControlBlock
  settledCopy : CopyId
  action      : StartupAction
  deriving DecidableEq, Repr

/-- Start-up under way: waiting while PFAIL is asserted (R175), or at its writes. -/
inductive Startup where
  | waiting
  | writing (job : StartupJob)
  deriving DecidableEq, Repr

/-- The start-up report (R182). -/
structure Report where
  boot          : Word
  action        : StartupAction
  faulted       : List (Fin 64)
  emptied       : List (Fin 4)
  damaged       : Nat
  constantsLost : Bool
  channelsLost  : Bool
  nvFault       : Bool
  deriving DecidableEq, Repr

/-! ### The engine (Chapter 6) -/

inductive EngineState where
  | idle | persisting | held | halted | stopped
  deriving DecidableEq, Repr

/-- The item itself (R88): the queue's record, or the channel of a fold, or an emergency fold. -/
inductive FlightItem where
  | queued (item : QueueItem)
  | fold (channel : Fin 8)
  | emergency
  deriving DecidableEq, Repr

/-- A channel's part in a FOLD or EMERGENCY_FOLD in flight: its fold record, and whether the outcome places
its pulses in its target (R131, R132, R139). -/
structure FlightFold where
  data   : FoldRecord
  placed : Bool
  deriving DecidableEq, Repr

/-- What an evaluation prepares for publication (R88, R103, R104). -/
structure Prepared where
  entry         : JournalEntry
  records       : List (Fin 64 × Record)
  marks         : List (Fin 64 × StatusFlag)
  clearFlags    : Option (Fin 64)
  bank          : Option Bank
  channelConfig : Option (Fin 8 × ChannelConfig)
  capture       : Option (Fin 4 × Capture)
  folds         : List FlightFold
  control       : ControlBlock
  deriving DecidableEq, Repr

/-- The item in flight (R88). Its completion number is its entry's. -/
structure InFlight where
  item     : FlightItem
  prepared : Prepared
  deriving DecidableEq, Repr

structure Engine where
  state         : EngineState
  inFlight      : Option InFlight
  fairness      : Nat
  lastServed    : Fin 8
  deferredReset : Bool
  deriving DecidableEq, Repr

/-! ### The host port (Chapter 11) -/

/-- nCS high; low with the first byte under way; a write or a read transaction at its data bytes (R183). -/
inductive PortMode where
  | none | first | write | read
  deriving DecidableEq, Repr

/-- What SDO carries (R183): high impedance, the byte being shifted out, or the unstated bytes of the `n`-th
write transaction, `Config.sdoInWrite n i` (log 9). -/
inductive Sdo where
  | highZ
  | shifting (b : Byte)
  | unstated (n : Nat)
  deriving DecidableEq, Repr

/-- The serial port (R183 to R185). -/
structure Port where
  mode     : PortMode
  address  : Address
  captured : List (Address × Byte)
  sdo      : Sdo
  deriving DecidableEq, Repr

/-- The result codes of R189. -/
inductive ResultCode where
  | ok | notReady | unknownCommand | wrongState | badArgument | badOperand | legLimit | emptyDraft | queueFull
  | legsExhausted | protected_ | pendingLocked | sequenceExhausted | notFound | tooLate | nothingToFold | halted
  | powerdown
  deriving DecidableEq, Repr

/-- The operand buffer (R13): pairs as written, least significant at position 0. -/
structure OperandBuffer where
  pairs      : Vector Byte 9
  count      : Nat
  badDigit   : Bool
  overrun    : Bool
  seriesOpen : Bool
  deriving DecidableEq, Repr

def OperandBuffer.cleared : OperandBuffer :=
  { pairs := Vector.replicate 9 0, count := 0, badDigit := false, overrun := false, seriesOpen := false }

/-- The readout buffer (R190); READOUT_LEFT is the length less the pointer. -/
structure Readout where
  bytes   : List Byte
  kind    : Byte
  pointer : Nat
  deriving DecidableEq, Repr

/-- The device state (R169). -/
inductive DeviceState where
  | starting | ready | halted | powerdown
  deriving DecidableEq, Repr

/-- The eleven events, named with the bit of EVENTS each stands at (R192). -/
inductive Event where
  | completion | journalFull | queueSpace | limit | stray | overrun | channelFault | channelClosed | nvFault
  | pfail | ready
  deriving DecidableEq, Repr

/-- The whole state. -/
structure State where
  port        : Port
  command     : Byte
  result      : ResultCode
  args        : Vector Byte 12
  readout     : Readout
  events      : BitVec 11
  enables     : BitVec 11
  cfgen       : Bool
  pfail       : Bool
  resetPin    : Bool
  powered     : Bool
  operand     : OperandBuffer
  draft       : Option Draft
  queue       : Queue
  totals      : Vector Totaliser 64
  constants   : Constants
  channels    : Vector Channel 8
  engine      : Engine
  journal     : Journal
  checkpoints : Checkpoints
  device      : DeviceState
  pfTaken     : Bool
  generation  : Word
  boot        : Word
  nv          : NvArray
  current     : CurrentCopies
  commit      : Option Commit
  startup     : Option Startup
  report      : Report
  pending     : List Instr
  freeCount   : Nat
  deriving DecidableEq, Repr

/-- The part has no fault in the host interface's sense: whatever it is sent, it goes on (result codes,
rejected items, HALTED and the start-up report are states). -/
inductive Fault where
  deriving DecidableEq, Repr

/-- Why a command has no meaning here. -/
inductive Refusal where
  /-- Raised by `exec` for a command that has no meaning yet; safe: nothing is claimed of it. -/
  | notModelled (mnemonic : String)
  deriving DecidableEq, Repr

/-! ### Reset -/

/-- R176: the array as format leaves it; the ring is not written by format (log 4). -/
def NvArray.formatted : NvArray :=
  { controlA := .good (.number 1) ControlBlock.formatted
    controlB := .good (.number 1) ControlBlock.formatted
    intent := .empty
    home := Vector.replicate 64 ⟨.good .format Record.unused, .good .format Record.unused⟩
    active := ⟨.good .format (Vector.replicate 32 none), .good .format (Vector.replicate 32 none)⟩
    channels := ⟨.good .format (Vector.replicate 8 ChannelConfig.formatted),
                 .good .format (Vector.replicate 8 ChannelConfig.formatted)⟩
    ring := Vector.replicate 32 .bad
    slots := Vector.replicate 4 (.good .format none) }

/-- Every RAM field at the value its owning chapter gives for a reset (R13, R23, R44, R56, R86, R87, R118,
R150, R163, R186, R190, R192, R193), around what a reset keeps. What those rules leave open through STARTING is
the model's choice (log 6): among it the four slots, which stand EMPTY until start-up reads their areas. -/
def State.cleared (nv : NvArray) (port : Port) (cfgen pfail resetPin powered : Bool) (pending : List Instr)
    (freeCount : Nat) : State :=
  { port := port
    command := 0
    result := .ok
    args := Vector.replicate 12 0
    readout := { bytes := [], kind := 0, pointer := 0 }
    events := 0
    enables := 0
    cfgen := cfgen
    pfail := pfail
    resetPin := resetPin
    powered := powered
    operand := OperandBuffer.cleared
    draft := none
    queue := { items := [], nextSeq := some 1, spaceWanted := false }
    totals := Vector.replicate 64 { data := Record.unused, atUpper := false, atLower := false, refused := false }
    constants := { active := Vector.replicate 32 none, pending := Vector.replicate 32 none, epoch := 0, lock := none }
    channels := Vector.replicate 8 { config := ChannelConfig.formatted, run := ChannelRun.fresh false }
    engine := { state := .idle, inFlight := none, fairness := 0, lastServed := 7, deferredReset := false }
    journal := { counter := 0, head := 0, entries := [] }
    checkpoints :=
      { slots := Vector.replicate 4 { content := none, pinned := false, inFlight := false }, counter := 0 }
    device := .starting
    pfTaken := false
    generation := 0
    boot := 0
    nv := nv
    current :=
      { control := .a, home := Vector.replicate 64 (.copy .a), active := .copy .a, channels := .copy .a }
    commit := none
    startup := none
    report :=
      { boot := 0, action := .clean, faulted := [], emptied := [], damaged := 0, constantsLost := false,
        channelsLost := false, nvFault := false }
    pending := pending
    freeCount := freeCount }

/-- The port with no transaction: nCS high (R183). -/
def Port.closed : Port := { mode := .none, address := 0, captured := [], sdo := .highZ }

/-- The part right after a power-on reset of a formatted array, CFGEN inactive and PFAIL deasserted: device
STARTING, every RAM field as a reset leaves it, the boot number write of start-up under way (log 4, log 5). -/
def State.reset : State :=
  { State.cleared NvArray.formatted Port.closed false false false true [] 0 with
    startup := some (.writing
      { settle := [], retried := false, control := ControlBlock.formatted, copy := .a,
        settled := ControlBlock.formatted, settledCopy := .a, action := .clean }) }

end Sys2Proof.Machine
end

