-- ==== Sys2Proof/Machine/Flags.lean ====
section
/-! DEFINITION. Event latches, enables and INT (R192, R193), and the status flags of totalisers (R34). -/

namespace Sys2Proof.Machine

/-- The bit of EVENTS at which an event stands (R192). -/
def Event.bit : Event → Nat
  | .completion => 0
  | .journalFull => 1
  | .queueSpace => 2
  | .limit => 3
  | .stray => 4
  | .overrun => 5
  | .channelFault => 6
  | .channelClosed => 7
  | .nvFault => 8
  | .pfail => 9
  | .ready => 10

/-- The word with an event's bit alone. -/
def Event.mask (e : Event) : BitVec 11 := BitVec.twoPow 11 e.bit

/-- R192: whether an event's latch is set. -/
def State.latched (s : State) (e : Event) : Bool := s.events.getLsbD e.bit

/-- R192: raising an event sets its latch; raising it while it is set changes nothing. -/
def raise (e : Event) (s : State) : State := { s with events := s.events ||| e.mask }

/-- Raise an event when a condition holds. -/
def raiseIf (c : Bool) (e : Event) (s : State) : State := if c then raise e s else s

/-- R192: a write to one byte of EVENTS clears each latch whose bit is written 1. -/
def clearLatches (high : Bool) (data : Byte) (events : BitVec 11) : BitVec 11 :=
  events &&& ~~~(if high then data.setWidth 11 <<< 8 else data.setWidth 11)

/-- R193: a write to one byte of EVENT_ENABLE sets or clears the enables of that byte; bits 11 to 15 do not
exist. -/
def writeEnables (high : Bool) (data : Byte) (enables : BitVec 11) : BitVec 11 :=
  if high then (enables &&& 0x0FF#11) ||| (data.setWidth 11 <<< 8)
  else (enables &&& 0x700#11) ||| data.setWidth 11

/-- R193: INT is driven low while a latch is set whose enable is set too, and is high impedance otherwise,
while the RESET line is asserted, and without supply. -/
def State.intLow (s : State) : Bool := s.powered && !s.resetPin && (s.events &&& s.enables != 0)

/-- R34: set a status flag of a totaliser. -/
def Totaliser.mark (t : Totaliser) : StatusFlag → Totaliser
  | .atUpper => { t with atUpper := true }
  | .atLower => { t with atLower := true }
  | .refused => { t with refused := true }

/-- Whether a status flag is set. -/
def Totaliser.flag (t : Totaliser) : StatusFlag → Bool
  | .atUpper => t.atUpper
  | .atLower => t.atLower
  | .refused => t.refused

/-- R35, R42: all three status flags clear. -/
def Totaliser.unmarked (t : Totaliser) : Totaliser :=
  { t with atUpper := false, atLower := false, refused := false }

/-- R34: the flags of a publication set on the table. -/
def markAll (totals : Vector Totaliser 64) (marks : List (Fin 64 × StatusFlag)) : Vector Totaliser 64 :=
  marks.foldl (fun ts m => ts.set m.1 (ts[m.1].mark m.2)) totals

/-- R34: whether some flag of the marks is clear in the table, so that it goes from clear to set. -/
def anyNewFlag (totals : Vector Totaliser 64) (marks : List (Fin 64 × StatusFlag)) : Bool :=
  marks.any fun m => !(totals[m.1].flag m.2)

end Sys2Proof.Machine
end

