-- ==== Sys2Proof/Machine/Decimal.lean ====
section
/-! DEFINITION. Decimal arithmetic (Chapter 1): exact products, alignment under the four rounding modes, the
CARRY split, exact alignment and comparison. -/

namespace Sys2Proof.Machine

/-- R1: the decimal of a sign, a coefficient and a scale; a zero coefficient gives +0 under either sign. -/
def Dec.ofSign (negative : Bool) (coef scale : Nat) : Dec :=
  { value := if negative then -(coef : Int) else (coef : Int), scale := scale }

/-- R6: the exact product: coefficients multiplied, scales added, signs combined. -/
def Dec.mul (x y : Dec) : Dec := { value := x.value * y.value, scale := x.scale + y.scale }

/-- R6: negation keeps the coefficient and the scale; the negation of +0 is +0. -/
def Dec.neg (x : Dec) : Dec := { x with value := -x.value }

/-- The coefficient at a scale not less than the decimal's own: multiplied by the power of ten between. -/
def Dec.widen (x : Dec) (t : Nat) : Int := x.value * 10 ^ (t - x.scale)

/-- R12: the comparison of two decimals at the greater of their scales. -/
def Dec.cmp (x y : Dec) : Ordering :=
  compare (x.widen (max x.scale y.scale)) (y.widen (max x.scale y.scale))

/-- R12: a guard's relation, the totaliser's value on the left and the threshold on the right. -/
def Relation.holds (r : Relation) (x y : Dec) : Bool :=
  match r, x.cmp y with
  | .lt, o => o == .lt
  | .le, o => o != .gt
  | .gt, o => o == .gt
  | .ge, o => o != .lt
  | .eq, o => o == .eq
  | .ne, o => o != .eq

/-- R7: the kept coefficient of a magnitude with `e` excess digits. -/
def kept (coef e : Nat) : Nat := coef / 10 ^ e

/-- R7: the excess digits, which stand for the fraction `excess / 10^e` of one unit. -/
def excess (coef e : Nat) : Nat := coef % 10 ^ e

/-- R8: the aligned magnitude from the kept coefficient and the excess of `e` digits. CARRY hands its kept
coefficient over unrounded (R9) and does not come through here. -/
def roundKept (mode : Rounding) (k f e : Nat) : Nat :=
  match mode with
  | .truncate | .carry => k
  | .halfUp => if 10 ^ e ≤ 2 * f then k + 1 else k
  | .halfEven =>
    if 2 * f = 10 ^ e then (if k % 2 = 0 then k else k + 1)
    else if 10 ^ e < 2 * f then k + 1 else k

/-- R7, R8: a magnitude of scale `s` brought to scale `t`. -/
def alignMagnitude (mode : Rounding) (coef s t : Nat) : Nat :=
  if s ≤ t then coef * 10 ^ (t - s)
  else roundKept mode (kept coef (s - t)) (excess coef (s - t)) (s - t)

/-- R7, R8: an exact amount aligned to scale `t`, its sign applied to the aligned magnitude. -/
def Dec.align (mode : Rounding) (x : Dec) (t : Nat) : Int :=
  if x.value < 0 then -(alignMagnitude mode x.value.natAbs x.scale t : Int)
  else (alignMagnitude mode x.value.natAbs x.scale t : Int)

/-- R9: one unit of a totaliser is this many sub-units of its residue. -/
def subUnits : Nat := 100000000

/-- R9: the whole part W of a non-negative magnitude of scale `s` at scale `t`. -/
def carryWhole (coef s t : Nat) : Nat :=
  if s ≤ t then coef * 10 ^ (t - s) else kept coef (s - t)

/-- R9: the fraction part F: the first 8 excess digits, zeros appended or later digits dropped. -/
def carryFraction (coef s t : Nat) : Nat :=
  if s ≤ t then 0
  else if s - t ≤ 8 then excess coef (s - t) * 10 ^ (8 - (s - t))
  else excess coef (s - t) / 10 ^ (s - t - 8)

/-- R10: the carry and the new residue of a residue and a fraction. -/
def carryCombine (residue fraction : Nat) : Nat × Nat :=
  if subUnits ≤ residue + fraction then (1, residue + fraction - subUnits) else (0, residue + fraction)

/-- R11: exact alignment to scale `t`: the value in units, or none when a digit would be lost or the result
has more than 18 digits. -/
def Dec.alignExact (x : Dec) (t : Nat) : Option Int :=
  if x.scale ≤ t then
    if (x.widen t).natAbs < 10 ^ 18 then some (x.widen t) else none
  else if excess x.value.natAbs (x.scale - t) = 0 then
    some (x.value.sign * (kept x.value.natAbs (x.scale - t) : Int))
  else none

end Sys2Proof.Machine
end

