-- ==== Sys2Proof/Machine/Operands.lean ====
section
/-! DEFINITION. Operand forms: the operand buffer and its digits (R13 to R16), and the reading of a command's
arguments from the argument registers (R58, R61, R64 to R66). -/

namespace Sys2Proof.Machine

/-! ### The operand buffer -/

/-- R13: the series moves to ENDED; positions, count and marks stay. -/
def endSeries (o : OperandBuffer) : OperandBuffer := { o with seriesOpen := false }

/-- R14: both halves of a pair hold a digit. -/
def pairLegal (data : Byte) : Bool := decide (data.toNat / 16 ≤ 9 ∧ data.toNat % 16 ≤ 9)

/-- R14, R15: a pair delivered to an OPEN series. -/
def pushPair (data : Byte) (o : OperandBuffer) : OperandBuffer :=
  if h : o.count < 9 then
    { o with
      pairs := o.pairs.set o.count (if pairLegal data then data else 0)
      count := o.count + 1
      badDigit := o.badDigit || !pairLegal data }
  else { o with overrun := true }

/-- R13: a write to OPERAND: while the series is ENDED it clears the buffer and opens a series first. -/
def writeOperand (data : Byte) (o : OperandBuffer) : OperandBuffer :=
  if o.seriesOpen then pushPair data o
  else pushPair data { OperandBuffer.cleared with seriesOpen := true }

/-- The two-digit value of a pair. -/
def pairValue (b : Byte) : Nat := b.toNat / 16 * 10 + b.toNat % 16

/-- The number of a list of pairs, least significant pair first. -/
def pairsValue : List Byte → Nat
  | [] => 0
  | b :: rest => pairValue b + 100 * pairsValue rest

/-- R14: the coefficient the buffer delivers. -/
def OperandBuffer.coefficient (o : OperandBuffer) : Nat := pairsValue (o.pairs.toList.take o.count)

/-- R16: the buffer is accepted as an immediate operand or a totaliser-format field. -/
def OperandBuffer.accepted (o : OperandBuffer) : Bool := decide (1 ≤ o.count) && !o.badDigit && !o.overrun

/-- R16: the buffer is accepted as a constant entry or a quantum: at most 12 significant digits. -/
def OperandBuffer.acceptedConstant (o : OperandBuffer) : Bool :=
  o.accepted && decide (o.coefficient < 10 ^ 12)

/-! ### Single arguments -/

/-- An index argument below `n`. -/
def indexArg (n : Nat) (b : Byte) : Option (Fin n) :=
  if h : b.toNat < n then some ⟨b.toNat, h⟩ else none

/-- An index argument below `n`, or 255 for absent (R60). -/
def optionalArg (n : Nat) (b : Byte) : Option (Option (Fin n)) :=
  if b = 255#8 then some none else (indexArg n b).map some

/-- A one-bit argument, 0 or 1: a sign (0 for +), on or off, ACTIVE or UNUSED. -/
def bitArg (b : Byte) : Option Bool :=
  if b = 0#8 then some false else if b = 1#8 then some true else none

/-- A number argument at most `max`. -/
def boundedArg (max : Nat) (b : Byte) : Option Nat := if b.toNat ≤ max then some b.toNat else none

def kindArg (b : Byte) : Option Kind :=
  match b.toNat with
  | 0 => some .monotonic
  | 1 => some .resettable
  | 2 => some .balance
  | _ => none

def roundingArg (b : Byte) : Option Rounding :=
  match b.toNat with
  | 0 => some .halfUp
  | 1 => some .halfEven
  | 2 => some .truncate
  | 3 => some .carry
  | _ => none

def policyArg (b : Byte) : Option Policy :=
  match b.toNat with
  | 0 => some .saturate
  | 1 => some .wrap
  | 2 => some .reject
  | _ => none

def edgeArg (b : Byte) : Option EdgeSelect :=
  match b.toNat with
  | 0 => some .rising
  | 1 => some .falling
  | 2 => some .both
  | _ => none

def directionArg (b : Byte) : Option Direction :=
  match b.toNat with
  | 0 => some .add
  | 1 => some .subtract
  | _ => none

def legOpArg (b : Byte) : Option LegOp :=
  match b.toNat with
  | 0 => some .add
  | 1 => some .subtract
  | 2 => some .set
  | 3 => some .clear
  | _ => none

def relationArg (b : Byte) : Option Relation :=
  match b.toNat with
  | 0 => some .lt
  | 1 => some .le
  | 2 => some .gt
  | 3 => some .ge
  | 4 => some .eq
  | 5 => some .ne
  | _ => none

def guardModeArg (b : Byte) : Option GuardMode :=
  match b.toNat with
  | 0 => some .skip
  | 1 => some .require
  | _ => none

/-! ### OPEN -/

/-- R58, R59: the tag and body an OPEN names, or none when an argument it reads is out of range. -/
def openArguments (args : Vector Byte 12) : Option Draft :=
  let tag := Half.ofBytes args[1] args[2]
  match args[0].toNat with
  | 0 => (guardModeArg args[5]).map fun mode =>
      { tag := tag, body := .posting (Half.ofBytes args[3] args[4]) mode [] }
  | 1 => (indexArg 64 args[6]).map fun t =>
      { tag := tag, body := .configureTotaliser t TotFields.empty }
  | 2 => (indexArg 8 args[6]).map fun c =>
      { tag := tag, body := .configureChannel c ChannelFields.empty }
  | 3 => some { tag := tag, body := .switch }
  | 4 => some { tag := tag, body := .checkpoint (BitVec.allOnes 64) }
  | _ => none

/-- R67: the two kinds that CFGEN protects. -/
def Body.isConfiguration : Body → Bool
  | .configureTotaliser _ _ => true
  | .configureChannel _ _ => true
  | _ => false

/-! ### LEG -/

/-- The source of a leg as its arguments give it: an immediate operand still lacks its digits. -/
inductive SourceArg where
  | digits (negative : Bool) (scale : Nat)
  | fixed (source : Source)
  deriving DecidableEq, Repr

/-- R61: the source of ARG2 to ARG5 for an operation: NONE belongs to CLEAR, and the other three do not. -/
def sourceArgument (op : LegOp) (args : Vector Byte 12) : Option SourceArg :=
  match args[2].toNat with
  | 0 =>
    if op = .clear then none
    else match bitArg args[4], boundedArg 8 args[5] with
      | some neg, some scale => some (.digits neg scale)
      | _, _ => none
  | 1 => if op = .clear then none else (indexArg 32 args[3]).map fun k => .fixed (.constant k)
  | 2 => if op = .clear then none else (indexArg 64 args[3]).map fun t => .fixed (.totaliser t)
  | 3 => if op = .clear then some (.fixed .none) else none
  | _ => none

/-- R61: the guard of ARG7 to ARG9; the relation and threshold are read when a guard is present. -/
def guardArgument (args : Vector Byte 12) : Option (Option Guard) :=
  match optionalArg 64 args[7] with
  | none => none
  | some none => some none
  | some (some g) =>
    match relationArg args[8], indexArg 32 args[9] with
    | some r, some k => some (some { totaliser := g, relation := r, threshold := k })
    | _, _ => none

/-- R61: the leg an argument set describes, its source still lacking any digits; none is BAD_ARGUMENT. -/
def legArguments (args : Vector Byte 12) : Option (Leg × SourceArg) :=
  match indexArg 64 args[0], legOpArg args[1] with
  | some target, some op =>
    match sourceArgument op args, optionalArg 32 args[6], guardArgument args with
    | some source, some multiplier, some guard =>
      if op = .clear ∧ multiplier ≠ none then none
      else some ({ target := target, op := op, source := .none, multiplier := multiplier, guard := guard }, source)
    | _, _, _ => none
  | _, _ => none

/-! ### FIELD -/

/-- A totaliser-format value from the buffer, its sign and scale from ARG2 and ARG3 (R63, R64). -/
def valueField (args : Vector Byte 12) (o : OperandBuffer) : Except ResultCode Dec :=
  match bitArg args[2], boundedArg 8 args[3] with
  | some neg, some scale =>
    if o.accepted then .ok (Dec.ofSign neg o.coefficient scale) else .error .badOperand
  | _, _ => .error .badArgument

/-- A limit: carried as absent, or a value (R64). -/
def limitField (args : Vector Byte 12) (o : OperandBuffer) : Except ResultCode (Option Dec) :=
  match args[1].toNat with
  | 0 => .ok none
  | 1 => (valueField args o).map some
  | _ => .error .badArgument

/-- A field argument that is out of range gives BAD_ARGUMENT (R63). -/
def orBadArgument {α : Type} (x : Option α) : Except ResultCode α :=
  match x with
  | some a => .ok a
  | none => .error .badArgument

/-- R63, R64: a FIELD on a CONFIGURE_TOTALISER draft. -/
def totaliserField (f : TotFields) (args : Vector Byte 12) (o : OperandBuffer) : Except ResultCode TotFields :=
  match args[0].toNat with
  | 0 => (orBadArgument (kindArg args[1])).map fun x => { f with kind := some x }
  | 1 => (orBadArgument (boundedArg 6 args[1])).map fun x => { f with scale := some x }
  | 2 => (orBadArgument (roundingArg args[1])).map fun x => { f with rounding := some x }
  | 3 => (orBadArgument (policyArg args[1])).map fun x => { f with policy := some x }
  | 4 => (orBadArgument (bitArg args[1])).map fun x => { f with active := some x }
  | 5 => (limitField args o).map fun x => { f with upper := some x }
  | 6 => (limitField args o).map fun x => { f with lower := some x }
  | 7 => (valueField args o).map fun x => { f with initial := some x }
  | _ => .error .badArgument

/-- R65: the quantum is a magnitude from the buffer, tested as a constant, at the scale of ARG3. -/
def quantumField (args : Vector Byte 12) (o : OperandBuffer) : Except ResultCode Dec :=
  match boundedArg 10 args[3] with
  | some scale =>
    if o.acceptedConstant then .ok (Dec.ofSign false o.coefficient scale) else .error .badOperand
  | none => .error .badArgument

/-- R65: a threshold of 1 to 4096 in ARG1 and ARG2. -/
def thresholdArg (args : Vector Byte 12) : Option Nat :=
  let n := (Half.ofBytes args[1] args[2]).toNat
  if 1 ≤ n ∧ n ≤ 4096 then some n else none

/-- R63, R65: a FIELD on a CONFIGURE_CHANNEL draft. -/
def channelField (f : ChannelFields) (args : Vector Byte 12) (o : OperandBuffer) :
    Except ResultCode ChannelFields :=
  match args[0].toNat with
  | 8 => (orBadArgument (bitArg args[1])).map fun x => { f with enabled := some x }
  | 9 => (orBadArgument (edgeArg args[1])).map fun x => { f with edge := some x }
  | 10 => .ok { f with spacing := some args[1].toNat }
  | 11 => (orBadArgument (indexArg 64 args[1])).map fun x => { f with target := some x }
  | 12 => (quantumField args o).map fun x => { f with quantum := some x }
  | 13 => (orBadArgument (directionArg args[1])).map fun x => { f with direction := some x }
  | 14 => (orBadArgument (thresholdArg args)).map fun x => { f with threshold := some x }
  | _ => .error .badArgument

/-- R66: the set of ARG1 to ARG8: bit n of ARG(k+1) stands for totaliser 8k + n. -/
def selectionArg (args : Vector Byte 12) : BitVec 64 :=
  args[1].setWidth 64 ||| (args[2].setWidth 64 <<< 8) ||| (args[3].setWidth 64 <<< 16) |||
  (args[4].setWidth 64 <<< 24) ||| (args[5].setWidth 64 <<< 32) ||| (args[6].setWidth 64 <<< 40) |||
  (args[7].setWidth 64 <<< 48) ||| (args[8].setWidth 64 <<< 56)

/-- R63: a FIELD on a draft's body: the new body, or the refusal's code. -/
def fieldOn (b : Body) (args : Vector Byte 12) (o : OperandBuffer) : Except ResultCode Body :=
  match b with
  | .posting _ _ _ => .error .wrongState
  | .switch => .error .wrongState
  | .configureTotaliser t f => (totaliserField f args o).map fun g => .configureTotaliser t g
  | .configureChannel c f => (channelField f args o).map fun g => .configureChannel c g
  | .checkpoint _ =>
    if args[0] = 15#8 then
      if selectionArg args = 0#64 then .error .badArgument else .ok (.checkpoint (selectionArg args))
    else .error .badArgument

/-! ### Numbers in the argument registers -/

/-- R80: the sequence number in ARG0 to ARG3. -/
def sequenceArg (args : Vector Byte 12) : Word := Word.ofBytes args[0] args[1] args[2] args[3]

/-- R69: a sequence number written over ARG0 to ARG3. -/
def withSequence (n : Word) (args : Vector Byte 12) : Vector Byte 12 :=
  (((args.set 0 (n.setWidth 8)).set 1 ((n >>> 8).setWidth 8)).set 2 ((n >>> 16).setWidth 8)).set 3
    ((n >>> 24).setWidth 8)

end Sys2Proof.Machine
end

