-- ==== Sys2Proof/Machine/Ops.lean ====
section
/-! DEFINITION. The shared operations: the port and its data bytes (R183 to R186), the taking of a host command
with its result (R188, R189), the queue's removal and free counts (R75, R79, R83), and the changes of one
channel (R121, R122, R131, R132, R139). -/

namespace Sys2Proof.Machine

/-! ### The window (R186, R187, R189) -/

/-- The number of a result code (R189). -/
def ResultCode.code : ResultCode → Byte
  | .ok => 0x00
  | .notReady => 0x01
  | .unknownCommand => 0x02
  | .wrongState => 0x03
  | .badArgument => 0x04
  | .badOperand => 0x05
  | .legLimit => 0x06
  | .emptyDraft => 0x07
  | .queueFull => 0x08
  | .legsExhausted => 0x09
  | .protected_ => 0x0A
  | .pendingLocked => 0x0B
  | .sequenceExhausted => 0x0C
  | .notFound => 0x0D
  | .tooLate => 0x0E
  | .nothingToFold => 0x0F
  | .halted => 0x10
  | .powerdown => 0x11

def DeviceState.code : DeviceState → Byte
  | .starting => 0
  | .ready => 1
  | .halted => 2
  | .powerdown => 3

def EngineState.code : EngineState → Byte
  | .idle => 0
  | .persisting => 1
  | .held => 2
  | .halted => 3
  | .stopped => 4

/-- A bit of a register byte. -/
def bitAt (b : Bool) (n : Nat) : Byte := if b then 1#8 <<< n else 0#8

/-- R187: the STATE register. -/
def State.stateRegister (s : State) : Byte :=
  s.device.code ||| (s.engine.state.code <<< 2) ||| bitAt s.draft.isSome 5 ||| bitAt s.pfTaken 6

/-- R75: the legs a queued item holds. -/
def QueueItem.legs (q : QueueItem) : Nat :=
  match q.draft.body with
  | .posting _ _ legs => legs.length
  | _ => 0

/-- R75: the leg records held. -/
def Queue.legsHeld (q : Queue) : Nat := (q.items.map QueueItem.legs).sum

/-- R75: QUEUE_FREE. -/
def Queue.free (q : Queue) : Nat := Config.queueCapacity - q.items.length

/-- R75: LEGS_FREE. -/
def Queue.legsFree (q : Queue) : Nat := Config.legPool - q.legsHeld

/-- R141: JOURNAL_COUNT. -/
def State.journalCount (s : State) : Nat := s.journal.entries.length

/-- R186: GATES. -/
def State.gates (s : State) : Byte :=
  (List.finRange 8).foldl (fun acc c => acc ||| bitAt s.channels[c].run.gateOpen c.val) 0#8

/-- R194: LINES. -/
def State.linesRegister (s : State) : Byte := bitAt s.cfgen 0 ||| bitAt s.pfail 1

/-- R190: the byte a read of READOUT returns: the byte at the pointer, or the first byte again when the
pointer stands at the end; 0x00 from an empty buffer. -/
def Readout.next (r : Readout) : Byte := r.bytes.getD (if r.pointer < r.bytes.length then r.pointer else 0) 0#8

/-- R190: READOUT_LEFT. -/
def Readout.left (r : Readout) : Nat := r.bytes.length - r.pointer

/-- R190: the pointer after a read of READOUT; an empty buffer is not changed. -/
def Readout.advance (r : Readout) : Readout :=
  if r.bytes = [] then r
  else { r with pointer := if r.pointer < r.bytes.length then r.pointer + 1 else 1 }

/-- R186: the value a register of the window shows. -/
def State.register (s : State) (addr : Address) : Byte :=
  match addr.toNat with
  | 0x00 => Config.partId
  | 0x01 => s.stateRegister
  | 0x02 => s.command
  | 0x03 => s.result.code
  | 0x04 => s.args[0]
  | 0x05 => s.args[1]
  | 0x06 => s.args[2]
  | 0x07 => s.args[3]
  | 0x08 => s.args[4]
  | 0x09 => s.args[5]
  | 0x0A => s.args[6]
  | 0x0B => s.args[7]
  | 0x0C => s.args[8]
  | 0x0D => s.args[9]
  | 0x0E => s.args[10]
  | 0x0F => s.args[11]
  | 0x11 => s.readout.next
  | 0x12 => byteOf s.readout.left
  | 0x13 => s.readout.kind
  | 0x14 => byteOf s.queue.free
  | 0x15 => byteOf s.queue.legsFree
  | 0x16 => byteOf s.journalCount
  | 0x17 => s.gates
  | 0x18 => s.constants.epoch.setWidth 8
  | 0x19 => (s.constants.epoch >>> 8).setWidth 8
  | 0x1A => s.events.setWidth 8
  | 0x1B => (s.events >>> 8).setWidth 8
  | 0x1C => s.enables.setWidth 8
  | 0x1D => (s.enables >>> 8).setWidth 8
  | 0x1E => s.linesRegister
  | 0x20 => s.generation.setWidth 8
  | 0x21 => (s.generation >>> 8).setWidth 8
  | 0x22 => (s.generation >>> 16).setWidth 8
  | 0x23 => (s.generation >>> 24).setWidth 8
  | _ => 0#8

/-! ### The port (R183 to R185) -/

/-- R183: the port takes transactions in every device state, but not while RESET is asserted or without
supply. -/
def State.portLive (s : State) : Bool := s.powered && !s.resetPin

/-- R184: the address after a data byte: COMMAND, OPERAND and READOUT keep it, the others advance modulo 64. -/
def nextAddress (a : Address) : Address :=
  if a = 0x02#6 ∨ a = 0x10#6 ∨ a = 0x11#6 then a else a + 1#6

/-- R185: the addresses of the wide register whose lowest byte stands at `a`; empty elsewhere. -/
def wideSpan (a : Address) : List Address :=
  match a.toNat with
  | 0x18 => [0x18#6, 0x19#6]
  | 0x1A => [0x1A#6, 0x1B#6]
  | 0x1C => [0x1C#6, 0x1D#6]
  | 0x20 => [0x20#6, 0x21#6, 0x22#6, 0x23#6]
  | _ => []

/-- R185: the bytes captured when a read reaches `a`. -/
def State.capture (s : State) (a : Address) : List (Address × Byte) :=
  (wideSpan a).map fun x => (x, s.register x)

/-- R185: what a read data byte at `a` carries: the captured byte where this transaction captured the
register, otherwise the register as it stands. -/
def State.readAt (s : State) (a : Address) : Byte :=
  match s.port.captured.lookup a with
  | some b => b
  | none => s.register a

/-- A write transaction is open and its next data byte goes to `a`. -/
def State.writesAt (s : State) (a : Address) : Bool :=
  s.portLive && s.port.mode == .write && s.port.address == a

/-- A read transaction is open and its next data byte comes from `a`. -/
def State.readsAt (s : State) (a : Address) : Bool :=
  s.portLive && s.port.mode == .read && s.port.address == a

/-- R184: the port after a completed write data byte. -/
def State.advancePort (s : State) : State :=
  { s with port := { s.port with address := nextAddress s.port.address } }

/-! ### Host commands (R188, R189) -/

/-- R188: a code byte has completed at COMMAND: `run` carries the command out and gives its result code, all
at the one event. During STARTING every command is answered NOT_READY and changes nothing (R189). OPEN, LEG,
FIELD and WRITE_PENDING end the operand series whatever their result (R13). -/
def takeCommand (code : Byte) (endsSeries : Bool) (run : State → State × ResultCode) (s : State) :
    Host.Outcome State Fault Refusal :=
  if s.writesAt 0x02#6 then
    let t := { s with command := code, operand := if endsSeries then endSeries s.operand else s.operand }
    if s.device = .starting then .next { t with result := .notReady }
    else .next { (run t).1 with result := (run t).2 }
  else .next s

/-- A command refused: nothing but the result changes. -/
def refuse (r : ResultCode) (s : State) : State × ResultCode := (s, r)

/-- R57, R46: the device-state test of OPEN, LEG, FIELD, SUBMIT and WRITE_PENDING. -/
def whenReady (run : State → State × ResultCode) (s : State) : State × ResultCode :=
  match s.device with
  | .halted => refuse .halted s
  | .powerdown => refuse .powerdown s
  | _ => run s

/-- R35, R57: the device-state test of ACK_STATUS and DISCARD: POWERDOWN alone refuses. -/
def unlessPowerdown (run : State → State × ResultCode) (s : State) : State × ResultCode :=
  match s.device with
  | .powerdown => refuse .powerdown s
  | _ => run s

/-- R113, R119, R148, R159: refused from the taking of a PFAIL assertion on, passed in HALTED. -/
def unlessPowerFail (run : State → State × ResultCode) (s : State) : State × ResultCode :=
  match s.device with
  | .powerdown => refuse .powerdown s
  | .halted => run s
  | _ => if s.pfTaken then refuse .powerdown s else run s

/-- R80, R119: refused from the taking of a PFAIL assertion on, and answered HALTED in HALTED. -/
def onlyServing (run : State → State × ResultCode) (s : State) : State × ResultCode :=
  match s.device with
  | .powerdown => refuse .powerdown s
  | .halted => refuse .halted s
  | _ => if s.pfTaken then refuse .powerdown s else run s

/-- R190: an accepted LOAD replaces the readout buffer. -/
def loadRecord (kind : Byte) (bytes : List Byte) (s : State) : State × ResultCode :=
  ({ s with readout := { bytes := bytes, kind := kind, pointer := 0 } }, .ok)

/-! ### The queue (R79, R81, R83) -/

/-- R83: a removal from the queue raises QUEUE_SPACE and clears the mark while the mark is set. -/
def announceSpace (s : State) : State :=
  if s.queue.spaceWanted then raise .queueSpace { s with queue := { s.queue with spaceWanted := false } } else s

/-- R79, R81: the queue left with these items by a removal. -/
def removeItems (items : List QueueItem) (s : State) : State :=
  announceSpace { s with queue := { s.queue with items := items } }

/-- R83: a SUBMIT refused for lack of space sets the space wanted mark. -/
def wantSpace (s : State) : State := { s with queue := { s.queue with spaceWanted := true } }

/-! ### One channel -/

/-- A channel replaced. -/
def setChannel (c : Fin 8) (ch : Channel) (s : State) : State := { s with channels := s.channels.set c ch }

/-- R120, R138, R118: the channels accept edges in READY and HALTED, until a PFAIL assertion is taken (and
not without supply). -/
def State.acceptsEdges (s : State) : Bool := s.powered && (s.device == .ready || s.device == .halted) && !s.pfTaken

/-- R120: an edge is selected by the stored edge field. -/
def EdgeSelect.selects (e : EdgeSelect) (rising : Bool) : Bool :=
  match e with
  | .rising => rising
  | .falling => !rising
  | .both => true

/-- R120: a selected edge at a measured time is spaced from the last accepted edge by the spacing times 10
microseconds at least; a spacing of 0 accepts every selected edge. -/
def Channel.spaced (ch : Channel) (time : Nat) : Bool :=
  match ch.run.lastEdge with
  | none => true
  | some last => ch.config.spacing == 0 || decide (last + 10 * ch.config.spacing ≤ time)

/-- R120: whether a channel accepts an edge. -/
def Channel.accepts (ch : Channel) (rising : Bool) (time : Nat) : Bool :=
  ch.run.state != .disabled && ch.config.edge.selects rising && ch.spaced time

/-- R121: whether an accepted edge is counted as unfolded (the gate is OPEN) or is a stray. -/
def ChannelRun.counts (r : ChannelRun) : Bool := r.state == .counting || (r.state == .faulted && r.gateOpen)

/-- R121: an accepted edge taken into the counts, with the event it raises. -/
def ChannelRun.countEdge (r : ChannelRun) (time : Nat) : ChannelRun × Option Event :=
  let r := { r with lastEdge := some time }
  if r.counts then
    if r.unfolded < Config.countCeiling then ({ r with unfolded := r.unfolded + 1 }, none)
    else ({ r with overrun := true }, some .overrun)
  else if r.stray < Config.countCeiling then ({ r with stray := r.stray + 1 }, some .stray)
  else (r, some .stray)

/-- R122: the condition of a fold request. -/
def Channel.requestDue (pfTaken : Bool) (ch : Channel) : Bool :=
  !ch.run.request && ch.run.inFlight.isNone && !pfTaken &&
  ((ch.run.state == .counting && decide (ch.config.threshold ≤ ch.run.unfolded)) ||
   (ch.run.state == .draining && decide (0 < ch.run.unfolded)))

/-- R122: the request raised when its condition holds. -/
def Channel.raiseRequest (pfTaken : Bool) (ch : Channel) : Channel :=
  if ch.requestDue pfTaken then { ch with run := { ch.run with request := true } } else ch

/-- R132, R139: `n` pulses added back to the unfolded count, saturating; the overrun mark is set by pulses lost
and by the mark the fold data carried. -/
def ChannelRun.giveBack (r : ChannelRun) (n : Nat) (carried : Bool) : ChannelRun :=
  if Config.countCeiling < r.unfolded + n then { r with unfolded := Config.countCeiling, overrun := true }
  else { r with unfolded := r.unfolded + n, overrun := r.overrun || carried }

/-- R132: whether giving back loses pulses, which raises OVERRUN. -/
def ChannelRun.losesBack (r : ChannelRun) (n : Nat) : Bool := decide (Config.countCeiling < r.unfolded + n)

/-- R129, R139: a channel hands over its count. -/
def ChannelRun.handOver (r : ChannelRun) : ChannelRun :=
  { r with unfolded := 0, request := false, inFlight := some r.unfolded, overrun := false }

/-- R129, R139: the fold record of a channel at the take. -/
def Channel.foldRecord (c : Fin 8) (ch : Channel) : FoldRecord :=
  { channel := c, count := ch.run.unfolded, overrun := ch.run.overrun }

/-- R131: the channel at the publication of its APPLIED fold. -/
def Channel.endApplied (pfTaken : Bool) (ch : Channel) : Channel :=
  let ch := { ch with run := { ch.run with inFlight := none } }
  if ch.run.state = .draining ∧ ch.run.unfolded = 0 then
    { ch with run := { ch.run with state := .idle, gateOpen := false } }
  else ch.raiseRequest pfTaken

/-- R126, R131: whether the publication of an APPLIED fold closes the channel. -/
def Channel.closesApplied (ch : Channel) : Bool := ch.run.state == .draining && ch.run.unfolded == 0

/-- R132: the channel at the publication of its REJECTED fold. -/
def Channel.endRejected (data : FoldRecord) (ch : Channel) : Channel :=
  { ch with run :=
    { ch.run.giveBack data.count data.overrun with inFlight := none, request := false, state := .faulted } }

/-- R139: a covered channel at the publication of the emergency fold. -/
def Channel.endEmergency (f : FlightFold) (ch : Channel) : Channel :=
  { ch with run :=
    { (if f.placed then ch.run else ch.run.giveBack f.data.count f.data.overrun) with inFlight := none } }

end Sys2Proof.Machine
end

