-- ==== Sys2Proof/Machine/ChannelOps.lean ====
section
/-! DEFINITION. The channel commands GATE_OPEN, GATE_CLOSE, FOLD_NOW, CLEAR_FAULT, ACK_STRAY (R119, R123 to
R128) and EDGE (R120, R121). -/

namespace Sys2Proof.Machine

/-- R119: a channel command past its device-state test acts on the channel of ARG0, refused above 7. -/
def onChannel (run : Fin 8 → State → State × ResultCode) (s : State) : State × ResultCode :=
  match indexArg 8 s.args[0] with
  | none => refuse .badArgument s
  | some c => run c s

/-- A channel's runtime record replaced. -/
def setRun (c : Fin 8) (r : ChannelRun) (s : State) : State := setChannel c { s.channels[c] with run := r } s

/-- R124: GATE_OPEN by the channel's state. -/
def gateOpenRun (c : Fin 8) (s : State) : State × ResultCode :=
  let r := s.channels[c].run
  match r.state with
  | .disabled => refuse .wrongState s
  | .idle =>
    if r.configInFlight then refuse .wrongState s
    else (setRun c { r with state := .counting, gateOpen := true } s, .ok)
  | .counting => (s, .ok)
  | .draining => refuse .wrongState s
  | .faulted => (setRun c { r with gateOpen := true } s, .ok)

/-- GATE_OPEN. -/
def execGateOpen (s : State) : Host.Outcome State Fault Refusal :=
  takeCommand 0x10#8 false (unlessPowerFail (onChannel gateOpenRun)) s

/-- R125: GATE_CLOSE by the channel's state. -/
def gateCloseRun (c : Fin 8) (s : State) : State × ResultCode :=
  let ch := s.channels[c]
  let r := ch.run
  match r.state with
  | .disabled => refuse .wrongState s
  | .idle => (s, .ok)
  | .counting =>
    if r.unfolded = 0 ∧ r.inFlight = none then
      (raise .channelClosed (setRun c { r with state := .idle, gateOpen := false } s), .ok)
    else
      (setChannel c
        (Channel.raiseRequest s.pfTaken { ch with run := { r with state := .draining, gateOpen := false } }) s, .ok)
  | .draining => (s, .ok)
  | .faulted => (setRun c { r with gateOpen := false } s, .ok)

/-- GATE_CLOSE. -/
def execGateClose (s : State) : Host.Outcome State Fault Refusal :=
  takeCommand 0x11#8 false (unlessPowerFail (onChannel gateCloseRun)) s

/-- R123: FOLD_NOW: its three tests in order, then a request unless one is pending. -/
def foldNowRun (c : Fin 8) (s : State) : State × ResultCode :=
  let r := s.channels[c].run
  if r.state = .disabled ∨ r.state = .faulted then refuse .wrongState s
  else if r.unfolded = 0 then refuse .nothingToFold s
  else if r.inFlight.isSome then refuse .wrongState s
  else (setRun c { r with request := true } s, .ok)

/-- FOLD_NOW. -/
def execFoldNow (s : State) : Host.Outcome State Fault Refusal :=
  takeCommand 0x12#8 false (onlyServing (onChannel foldNowRun)) s

/-- R127: CLEAR_FAULT by the channel's gate and count. -/
def clearFaultRun (c : Fin 8) (s : State) : State × ResultCode :=
  let ch := s.channels[c]
  let r := ch.run
  if r.state ≠ .faulted then refuse .wrongState s
  else if r.gateOpen then
    (setChannel c (Channel.raiseRequest s.pfTaken { ch with run := { r with state := .counting } }) s, .ok)
  else if 0 < r.unfolded then
    (setChannel c (Channel.raiseRequest s.pfTaken { ch with run := { r with state := .draining } }) s, .ok)
  else (raise .channelClosed (setRun c { r with state := .idle } s), .ok)

/-- CLEAR_FAULT. -/
def execClearFault (s : State) : Host.Outcome State Fault Refusal :=
  takeCommand 0x13#8 false (onlyServing (onChannel clearFaultRun)) s

/-- R128: ACK_STRAY, in every channel state. -/
def ackStrayRun (c : Fin 8) (s : State) : State × ResultCode :=
  (setRun c { s.channels[c].run with stray := 0 } s, .ok)

/-- ACK_STRAY. -/
def execAckStray (s : State) : Host.Outcome State Fault Refusal :=
  takeCommand 0x14#8 false (unlessPowerFail (onChannel ackStrayRun)) s

/-- R121, R122: an accepted edge: counted or a stray, its event raised, and the fold request it may lead to. -/
def acceptEdge (c : Fin 8) (time : Nat) (s : State) : State :=
  let ch := s.channels[c]
  let x := ch.run.countEdge time
  let t := setChannel c (Channel.raiseRequest s.pfTaken { ch with run := x.1 }) s
  match x.2 with
  | some e => raise e t
  | none => t

/-- EDGE (R120): selected and spaced edges are accepted while the channels accept any. -/
def execEdge (c : Fin 8) (rising : Bool) (time : Nat) (s : State) : Host.Outcome State Fault Refusal :=
  if s.acceptsEdges && s.channels[c].accepts rising time then .next (acceptEdge c time s) else .next s

end Sys2Proof.Machine
end

