-- ==== Sys2Proof/Machine/Compose.lean ====
section
/-! DEFINITION. The draft commands OPEN, LEG, FIELD, SUBMIT, DISCARD (Chapter 4), CANCEL (R80, R81) and
UNKNOWN_COMMAND (R189). -/

namespace Sys2Proof.Machine

/-- R58, R59: OPEN past its device-state test. -/
def openRun (s : State) : State × ResultCode :=
  if s.draft.isSome then refuse .wrongState s
  else match openArguments s.args with
    | none => refuse .badArgument s
    | some d =>
      if d.body.isConfiguration && !s.cfgen then refuse .protected_ s
      else ({ s with draft := some d }, .ok)

/-- OPEN. -/
def execOpen (s : State) : Host.Outcome State Fault Refusal := takeCommand 0x01#8 true (whenReady openRun) s

/-- R62: a leg with its source, the operand taken from the buffer where the source is IMMEDIATE. -/
def completeLeg (leg : Leg) (source : SourceArg) (o : OperandBuffer) : Option Leg :=
  match source with
  | .fixed x => some { leg with source := x }
  | .digits neg scale =>
    if o.accepted then some { leg with source := .immediate (Dec.ofSign neg o.coefficient scale) } else none

/-- R62: LEG past its device-state test. -/
def legRun (s : State) : State × ResultCode :=
  match s.draft with
  | some { tag, body := .posting epoch mode legs } =>
    match legArguments s.args with
    | none => refuse .badArgument s
    | some (leg, source) =>
      if Config.draftLegs ≤ legs.length then refuse .legLimit s
      else match completeLeg leg source s.operand with
        | none => refuse .badOperand s
        | some l => ({ s with draft := some { tag := tag, body := .posting epoch mode (legs ++ [l]) } }, .ok)
  | _ => refuse .wrongState s

/-- LEG. -/
def execLeg (s : State) : Host.Outcome State Fault Refusal := takeCommand 0x02#8 true (whenReady legRun) s

/-- R63: FIELD past its device-state test. -/
def fieldRun (s : State) : State × ResultCode :=
  match s.draft with
  | none => refuse .wrongState s
  | some d =>
    match fieldOn d.body s.args s.operand with
    | .error r => refuse r s
    | .ok b => ({ s with draft := some { d with body := b } }, .ok)

/-- FIELD. -/
def execField (s : State) : Host.Outcome State Fault Refusal := takeCommand 0x03#8 true (whenReady fieldRun) s

/-- R76: the counter after it gives a number; the last number leaves it EXHAUSTED. -/
def nextSequence (n : Word) : Option Word := if n = BitVec.allOnes 32 then none else some (n + 1)

/-- R69, R77: the hand-over of an accepted draft with its sequence number. -/
def acceptDraft (d : Draft) (n : Word) (s : State) : State :=
  { s with
    queue := { s.queue with
      items := s.queue.items ++ [{ seq := n, active := false, draft := d }]
      nextSeq := nextSequence n }
    constants := if d.body = .switch then { s.constants with lock := some n } else s.constants
    args := withSequence n s.args
    draft := none }

/-- The legs of a draft (R68 item 8). -/
def Draft.legs (d : Draft) : List Leg :=
  match d.body with
  | .posting _ _ legs => legs
  | _ => []

/-- R68: a POSTING draft. -/
def Body.isPosting : Body → Bool
  | .posting _ _ _ => true
  | _ => false

/-- R68: SUBMIT past its device-state test: its eight tests in order, then the hand-over. -/
def submitRun (s : State) : State × ResultCode :=
  match s.draft with
  | none => refuse .wrongState s
  | some d =>
    if d.body.isPosting && d.legs.isEmpty then refuse .emptyDraft s
    else if d.body.isConfiguration && !s.cfgen then refuse .protected_ s
    else if d.body == .switch && s.constants.lock.isSome then refuse .pendingLocked s
    else if s.pfTaken then refuse .powerdown s
    else match s.queue.nextSeq with
      | none => refuse .sequenceExhausted s
      | some n =>
        if Config.queueCapacity ≤ s.queue.items.length then refuse .queueFull (wantSpace s)
        else if s.queue.legsFree < d.legs.length then refuse .legsExhausted (wantSpace s)
        else (acceptDraft d n s, .ok)

/-- SUBMIT. -/
def execSubmit (s : State) : Host.Outcome State Fault Refusal := takeCommand 0x04#8 false (whenReady submitRun) s

/-- R71: DISCARD past its device-state test. -/
def discardRun (s : State) : State × ResultCode :=
  if s.draft.isSome then ({ s with draft := none }, .ok) else refuse .wrongState s

/-- DISCARD. -/
def execDiscard (s : State) : Host.Outcome State Fault Refusal :=
  takeCommand 0x05#8 false (unlessPowerdown discardRun) s

/-- R49, R81: the lock freed when the removed item holds it. -/
def freeLock (q : QueueItem) (s : State) : State :=
  if q.draft.body = .switch ∧ s.constants.lock = some q.seq then
    { s with constants := { s.constants with lock := none } }
  else s

/-- R81: CANCEL past its device-state test. -/
def cancelRun (s : State) : State × ResultCode :=
  match s.queue.items.find? fun q => q.seq == sequenceArg s.args with
  | none => refuse .notFound s
  | some q =>
    if q.active then refuse .tooLate s
    else (freeLock q (removeItems (s.queue.items.eraseP fun x => x.seq == q.seq) s), .ok)

/-- CANCEL. -/
def execCancel (s : State) : Host.Outcome State Fault Refusal :=
  takeCommand 0x06#8 false (onlyServing cancelRun) s

/-- UNKNOWN_COMMAND (R189): a code that names no command; a code that names one is that command's event. -/
def execUnknownCommand (code : Byte) (s : State) : Host.Outcome State Fault Refusal :=
  if commandCodes.contains code then .next s else takeCommand code false (refuse .unknownCommand) s

end Sys2Proof.Machine
end

