-- ==== Sys2Proof/Machine/Layout.lean ====
section
/-! DEFINITION. The byte layouts of the readout records (R195 to R198). -/

namespace Sys2Proof.Machine

/-! ### Encodings (R195) -/

/-- `n` bytes of packed digits, least significant pair first, the more significant digit in the upper half. -/
def packDigits : Nat → Nat → List Byte
  | 0, _ => []
  | n + 1, x => byteOf (x / 10 % 10 * 16 + x % 10) :: packDigits n (x / 100)

/-- A value (V): sign, scale and 18 digits. -/
def valueBytes (value : Int) (scale : Nat) : List Byte :=
  (bitAt (decide (value < 0)) 7 ||| byteOf (scale % 16)) :: packDigits 9 value.natAbs

/-- Ten bytes that read 0. -/
def zeroValue : List Byte := List.replicate 10 0#8

/-- An absent value: bit 6 alone. -/
def absentValue : List Byte := 0x40#8 :: List.replicate 9 0#8

/-- An optional value (V). -/
def limitBytes (limit : Option Int) (scale : Nat) : List Byte :=
  match limit with
  | some v => valueBytes v scale
  | none => absentValue

/-- A decimal as a value (V). -/
def Dec.bytes (d : Dec) : List Byte := valueBytes d.value d.scale

/-- A constant (K): sign, INVALID, scale and 12 digits. -/
def constantBytes (entry : Option Dec) : List Byte :=
  match entry with
  | some d => (bitAt (decide (d.value < 0)) 7 ||| byteOf (d.scale % 16)) :: packDigits 6 d.value.natAbs
  | none => 0x40#8 :: List.replicate 6 0#8

/-- A residue (Q): 8 digits. -/
def residueBytes (r : Nat) : List Byte := packDigits 4 r

/-- A set of totalisers: bit n of byte k stands for totaliser 8k + n. -/
def setBytes (x : BitVec 64) : List Byte :=
  [x.setWidth 8, (x >>> 8).setWidth 8, (x >>> 16).setWidth 8, (x >>> 24).setWidth 8, (x >>> 32).setWidth 8,
   (x >>> 40).setWidth 8, (x >>> 48).setWidth 8, (x >>> 56).setWidth 8]

/-- The set with these members. -/
def setOf (xs : List (Fin 64)) : BitVec 64 := xs.foldl (fun acc t => acc ||| BitVec.twoPow 64 t.val) 0

/-- A 16-bit count. -/
def countBytes (n : Nat) : List Byte := Half.bytes (BitVec.ofNat 16 n)

/-! ### Codes (Chapter 4, R196, R197) -/

def TotState.code : TotState → Byte
  | .unused => 0
  | .active => 1
  | .faulted => 2

def Kind.code : Kind → Byte
  | .monotonic => 0
  | .resettable => 1
  | .balance => 2

def Rounding.code : Rounding → Byte
  | .halfUp => 0
  | .halfEven => 1
  | .truncate => 2
  | .carry => 3

def Policy.code : Policy → Byte
  | .saturate => 0
  | .wrap => 1
  | .reject => 2

def EdgeSelect.code : EdgeSelect → Byte
  | .rising => 0
  | .falling => 1
  | .both => 2

def Direction.code : Direction → Byte
  | .add => 0
  | .subtract => 1

def ChannelState.code : ChannelState → Byte
  | .disabled => 0
  | .idle => 1
  | .counting => 2
  | .draining => 3
  | .faulted => 4

def LegOp.code : LegOp → Byte
  | .add => 0
  | .subtract => 1
  | .set => 2
  | .clear => 3

def Relation.code : Relation → Byte
  | .lt => 0
  | .le => 1
  | .gt => 2
  | .ge => 3
  | .eq => 4
  | .ne => 5

def GuardMode.code : GuardMode → Byte
  | .skip => 0
  | .require => 1

def SourceKind.code : SourceKind → Byte
  | .posting => 0
  | .configureTotaliser => 1
  | .configureChannel => 2
  | .switch => 3
  | .checkpoint => 4
  | .fold => 5
  | .emergencyFold => 6
  | .damaged => 7

def ItemOutcome.code : ItemOutcome → Byte
  | .applied => 0
  | .rejected => 1

def Reason.code : Reason → Byte
  | .epochMismatch => 1
  | .notActive => 2
  | .badConstant => 3
  | .guardFailed => 4
  | .kind => 5
  | .direction => 6
  | .limit => 7
  | .protected_ => 8
  | .badConfig => 9
  | .outOfLimits => 10
  | .bound => 11
  | .channelBusy => 12
  | .noSlot => 13

def Mark.code : Mark → Byte
  | .none => 0
  | .saturated => 1
  | .wrapped => 2
  | .skipped => 3

def StartupAction.code : StartupAction → Byte
  | .formatted => 0
  | .clean => 1
  | .rolledForward _ => 2
  | .intentDiscarded => 3

/-- An absent code field reads 0. -/
def codeOr {α : Type} (code : α → Byte) (x : Option α) : Byte :=
  match x with
  | some a => code a
  | none => 0#8

/-! ### TOTALISER, CONSTANT, CHANNEL (R196) -/

def totaliserRecord (index : Fin 64) (t : Totaliser) : List Byte :=
  [byteOf index.val, t.data.state.code, t.data.kind.code, byteOf t.data.scale, t.data.rounding.code,
   t.data.policy.code, bitAt t.atUpper 0 ||| bitAt t.atLower 1 ||| bitAt t.refused 2] ++
  limitBytes t.data.upper t.data.scale ++ limitBytes t.data.lower t.data.scale ++
  valueBytes t.data.value t.data.scale ++ residueBytes t.data.residue ++ Word.bytes t.data.revision

def constantRecord (pendingBank : Bool) (index : Fin 32) (c : Constants) : List Byte :=
  [bitAt pendingBank 0, byteOf index.val] ++
  constantBytes (if pendingBank then c.pending[index] else c.active[index]) ++
  Half.bytes c.epoch ++ [bitAt c.lock.isSome 0] ++ Word.bytes (c.lock.getD 0)

def channelRecord (index : Fin 8) (c : Channel) : List Byte :=
  [byteOf index.val, bitAt c.config.enabled 0, c.config.edge.code, byteOf c.config.spacing,
   byteOf c.config.target.val] ++
  constantBytes (some c.config.quantum) ++ [c.config.direction.code] ++ countBytes c.config.threshold ++
  [c.run.state.code,
   bitAt c.run.gateOpen 0 ||| bitAt c.run.request 1 ||| bitAt c.run.inFlight.isSome 2 |||
     bitAt c.run.overrun 3 ||| bitAt c.run.configInFlight 4] ++
  countBytes c.run.unfolded ++ countBytes c.run.stray ++ countBytes (c.run.inFlight.getD 0)

/-! ### DRAFT and QUEUE_ENTRY (R197) -/

/-- A leg of 18 bytes. Its source index reads 0 for IMMEDIATE and NONE, and the operand reads 0 for the other
sources (log 28). -/
def legBytes (l : Leg) : List Byte :=
  [byteOf l.target.val, l.op.code,
   (match l.source with
    | .immediate _ => 0#8
    | .constant _ => 1#8
    | .totaliser _ => 2#8
    | .none => 3#8),
   (match l.source with
    | .constant k => byteOf k.val
    | .totaliser t => byteOf t.val
    | _ => 0#8),
   (match l.multiplier with
    | some m => byteOf m.val
    | none => 255#8)] ++
  (match l.guard with
   | some g => [byteOf g.totaliser.val, g.relation.code, byteOf g.threshold.val]
   | none => [255#8, 0#8, 0#8]) ++
  (match l.source with
   | .immediate d => d.bytes
   | _ => zeroValue)

/-- The code of a draft's kind (R58). -/
def Body.kindCode : Body → Byte
  | .posting _ _ _ => 0
  | .configureTotaliser _ _ => 1
  | .configureChannel _ _ => 2
  | .switch => 3
  | .checkpoint _ => 4

/-- A limit field: not carried reads 0, carried as absent shows bit 6, otherwise the value as stated. -/
def limitFieldBytes : Option (Option Dec) → List Byte
  | none => zeroValue
  | some none => absentValue
  | some (some d) => d.bytes

def totFieldsBytes (t : Fin 64) (f : TotFields) : List Byte :=
  [byteOf t.val,
   bitAt f.kind.isSome 0 ||| bitAt f.scale.isSome 1 ||| bitAt f.rounding.isSome 2 ||| bitAt f.policy.isSome 3 |||
     bitAt f.active.isSome 4 ||| bitAt f.upper.isSome 5 ||| bitAt f.lower.isSome 6 ||| bitAt f.initial.isSome 7,
   codeOr Kind.code f.kind, codeOr byteOf f.scale, codeOr Rounding.code f.rounding, codeOr Policy.code f.policy,
   codeOr (fun b => bitAt b 0) f.active] ++
  limitFieldBytes f.upper ++ limitFieldBytes f.lower ++
  (match f.initial with
   | some d => d.bytes
   | none => zeroValue)

def channelFieldsBytes (c : Fin 8) (f : ChannelFields) : List Byte :=
  [byteOf c.val,
   bitAt f.enabled.isSome 0 ||| bitAt f.edge.isSome 1 ||| bitAt f.spacing.isSome 2 ||| bitAt f.target.isSome 3 |||
     bitAt f.quantum.isSome 4 ||| bitAt f.direction.isSome 5 ||| bitAt f.threshold.isSome 6,
   codeOr (fun b => bitAt b 0) f.enabled, codeOr EdgeSelect.code f.edge, codeOr byteOf f.spacing,
   codeOr (fun t : Fin 64 => byteOf t.val) f.target] ++
  (match f.quantum with
   | some d => constantBytes (some d)
   | none => List.replicate 7 0#8) ++
  [codeOr Direction.code f.direction] ++ countBytes (f.threshold.getD 0)

/-- A DRAFT record. -/
def draftRecord (d : Draft) : List Byte :=
  [d.body.kindCode] ++ Half.bytes d.tag ++
  (match d.body with
   | .posting epoch mode legs =>
     Half.bytes epoch ++ [mode.code, byteOf legs.length] ++ legs.flatMap legBytes
   | .configureTotaliser t f => totFieldsBytes t f
   | .configureChannel c f => channelFieldsBytes c f
   | .switch => []
   | .checkpoint selection => setBytes selection)

/-- A QUEUE_ENTRY record. -/
def queueRecord (position held : Nat) (q : QueueItem) : List Byte :=
  [byteOf position, byteOf held] ++ Word.bytes q.seq ++ [bitAt q.active 0] ++ draftRecord q.draft

/-! ### JOURNAL (R197) -/

def effectBytes (e : Effect) : List Byte :=
  [byteOf e.target.val, e.mark.code] ++ valueBytes e.value e.scale ++ residueBytes e.residue

def foldBytes (f : FoldRecord) : List Byte :=
  [byteOf f.channel.val] ++ countBytes f.count ++ [bitAt f.overrun 0]

/-- A JOURNAL record. -/
def journalRecord (position held : Nat) (e : JournalEntry) : List Byte :=
  [byteOf position, byteOf held] ++ Word.bytes e.number ++
  [e.source.code,
   bitAt e.boot.isSome 0 ||| bitAt e.item.isSome 1 ||| bitAt e.channel.isSome 2 ||| bitAt e.outcome.isSome 3 |||
     bitAt e.reason.isSome 4 ||| bitAt e.failingLeg.isSome 5 ||| bitAt e.checkpoint.isSome 6] ++
  Word.bytes (e.boot.getD 0) ++
  Word.bytes ((e.item.map Prod.fst).getD 0) ++ Half.bytes ((e.item.map Prod.snd).getD 0) ++
  [codeOr (fun c : Fin 8 => byteOf c.val) e.channel, codeOr ItemOutcome.code e.outcome,
   codeOr Reason.code e.reason, codeOr byteOf e.failingLeg] ++
  Half.bytes (e.epoch.getD 0) ++ Word.bytes (e.generation.getD 0) ++
  [codeOr (fun c : Fin 4 × Word => byteOf c.1.val) e.checkpoint] ++
  Word.bytes ((e.checkpoint.map Prod.snd).getD 0) ++
  [byteOf e.effects.length, byteOf e.folds.length] ++
  e.effects.flatMap effectBytes ++ e.folds.flatMap foldBytes

/-! ### CHECKPOINT and STARTUP_REPORT (R162, R198) -/

/-- R162: the number of parts of a capture: its entries divided by 8, rounded up, and at least one. -/
def Capture.parts (c : Capture) : Nat := max 1 ((c.entries.length + 7) / 8)

def captureEntryBytes (e : CaptureEntry) : List Byte :=
  [byteOf e.index.val, e.state.code] ++ valueBytes e.value e.scale ++ residueBytes e.residue

def checkpointRecord (slot : Fin 4) (part : Nat) (x : Slot) (c : Capture) : List Byte :=
  let entries := (c.entries.drop (8 * part)).take 8
  [byteOf slot.val, bitAt x.pinned 0 ||| bitAt x.inFlight 1] ++ Word.bytes c.number ++ Word.bytes c.completion ++
  Word.bytes c.boot ++ Half.bytes c.epoch ++ Word.bytes c.generation ++
  [byteOf c.entries.length, byteOf part, byteOf c.parts, byteOf entries.length] ++
  entries.flatMap captureEntryBytes

def reportRecord (r : Report) : List Byte :=
  Word.bytes r.boot ++
  [r.action.code,
   (match r.action with
    | .rolledForward _ => 1#8
    | _ => 0#8) ||| bitAt r.constantsLost 1 ||| bitAt r.channelsLost 2 ||| bitAt r.nvFault 3] ++
  (match r.action with
   | .rolledForward n => Word.bytes n
   | _ => List.replicate 4 0#8) ++
  setBytes (setOf r.faulted) ++
  [r.emptied.foldl (fun acc i => acc ||| bitAt true i.val) 0#8, byteOf r.damaged]

end Sys2Proof.Machine
end

