-- ==== Sys2Proof/Machine/Loads.lean ====
section
/-! DEFINITION. The eight LOAD commands (R191): each copies one published record into the readout buffer, and a
refused one leaves the buffer as it was. Each is taken in READY, HALTED and POWERDOWN. -/

namespace Sys2Proof.Machine

/-- R37. -/
def loadTotaliserRun (s : State) : State × ResultCode :=
  match indexArg 64 s.args[0] with
  | none => refuse .badArgument s
  | some t => loadRecord 1#8 (totaliserRecord t s.totals[t]) s

/-- LOAD TOTALISER. -/
def execLoadTotaliser (s : State) : Host.Outcome State Fault Refusal := takeCommand 0x21#8 false loadTotaliserRun s

/-- R54. -/
def loadConstantRun (s : State) : State × ResultCode :=
  match indexArg 32 s.args[0], bitArg s.args[1] with
  | some i, some bank => loadRecord 2#8 (constantRecord bank i s.constants) s
  | _, _ => refuse .badArgument s

/-- LOAD CONSTANT. -/
def execLoadConstant (s : State) : Host.Outcome State Fault Refusal := takeCommand 0x22#8 false loadConstantRun s

/-- R140. -/
def loadChannelRun (s : State) : State × ResultCode :=
  match indexArg 8 s.args[0] with
  | none => refuse .badArgument s
  | some c => loadRecord 3#8 (channelRecord c s.channels[c]) s

/-- LOAD CHANNEL. -/
def execLoadChannel (s : State) : Host.Outcome State Fault Refusal := takeCommand 0x23#8 false loadChannelRun s

/-- R84: BAD_ARGUMENT above 15, NOT_FOUND beyond the items held. -/
def loadQueueEntryRun (s : State) : State × ResultCode :=
  let p := s.args[0].toNat
  if 15 < p then refuse .badArgument s
  else match s.queue.items[p]? with
    | none => refuse .notFound s
    | some q => loadRecord 4#8 (queueRecord p s.queue.items.length q) s

/-- LOAD QUEUE_ENTRY. -/
def execLoadQueueEntry (s : State) : Host.Outcome State Fault Refusal :=
  takeCommand 0x24#8 false loadQueueEntryRun s

/-- R152: BAD_ARGUMENT above 31, NOT_FOUND beyond the entry count. -/
def loadJournalRun (s : State) : State × ResultCode :=
  let p := s.args[0].toNat
  if 31 < p then refuse .badArgument s
  else match s.journal.entries[p]? with
    | none => refuse .notFound s
    | some e => loadRecord 5#8 (journalRecord p s.journalCount e) s

/-- LOAD JOURNAL. -/
def execLoadJournal (s : State) : Host.Outcome State Fault Refusal := takeCommand 0x25#8 false loadJournalRun s

/-- R162: BAD_ARGUMENT for a slot above 3 or a part above 7, NOT_FOUND for an EMPTY slot or a missing part. -/
def loadCheckpointRun (s : State) : State × ResultCode :=
  match indexArg 4 s.args[0], indexArg 8 s.args[1] with
  | some i, some part =>
    match s.checkpoints.slots[i].content with
    | none => refuse .notFound s
    | some c =>
      if c.parts ≤ part.val then refuse .notFound s
      else loadRecord 6#8 (checkpointRecord i part.val s.checkpoints.slots[i] c) s
  | _, _ => refuse .badArgument s

/-- LOAD CHECKPOINT. -/
def execLoadCheckpoint (s : State) : Host.Outcome State Fault Refusal :=
  takeCommand 0x26#8 false loadCheckpointRun s

/-- R72. -/
def loadDraftRun (s : State) : State × ResultCode :=
  match s.draft with
  | none => refuse .notFound s
  | some d => loadRecord 7#8 (draftRecord d) s

/-- LOAD DRAFT. -/
def execLoadDraft (s : State) : Host.Outcome State Fault Refusal := takeCommand 0x27#8 false loadDraftRun s

/-- R182. -/
def loadStartupReportRun (s : State) : State × ResultCode := loadRecord 8#8 (reportRecord s.report) s

/-- LOAD STARTUP_REPORT. -/
def execLoadStartupReport (s : State) : Host.Outcome State Fault Refusal :=
  takeCommand 0x28#8 false loadStartupReportRun s

end Sys2Proof.Machine
end

