-- ==== Sys2Proof/Machine/PortOps.lean ====
section
/-! DEFINITION. The port's own rows: TRANSACTION_START, MULTI_BYTE_READ_CAPTURE, OPERAND, READOUT, EVENTS,
EVENT_ENABLE, TRANSACTION_END (R183 to R185, R190, R192, R193), and the plain write of REGISTER_WRITE. -/

namespace Sys2Proof.Machine

/-- R183: nCS falls: SDO shifts out 0x00 during the first byte. -/
def openTransaction (s : State) : State :=
  { s with port := { s.port with mode := .first, captured := [], sdo := .shifting 0x00#8 } }

/-- R183, R185: the port after the first byte: bit 7 selects read or write, bits 5 to 0 give the address; a
read loads its first data byte, capturing a wide register whose lowest byte it starts at (log 19). A write
takes a new stream of unstated SDO bytes (log 9). -/
def startTransaction (first : Byte) (s : State) : State :=
  let a : Address := first.setWidth 6
  if first.getLsbD 7 then
    { s with port := { mode := .read, address := a, captured := s.capture a, sdo := .shifting (s.register a) } }
  else
    { s with
      port := { mode := .write, address := a, captured := [], sdo := .unstated s.freeCount }
      freeCount := s.freeCount + 1 }

/-- TRANSACTION_START: nCS falls from high, or the first byte after that fall is complete. -/
def execTransactionStart (first : Option Byte) (s : State) : Host.Outcome State Fault Refusal :=
  match first with
  | none => if s.portLive && s.port.mode == .none then .next (openTransaction s) else .next s
  | some b => if s.portLive && s.port.mode == .first then .next (startTransaction b s) else .next s

/-- R185: the argument register at an address, 0 to 11, or none. -/
def argIndex (a : Address) : Option (Fin 12) :=
  if h : 4 ≤ a.toNat ∧ a.toNat < 16 then some ⟨a.toNat - 4, by omega⟩ else none

/-- R185: a data byte written to an argument register, a read-only register or an unassigned address. -/
def writeRegister (data : Byte) (s : State) : State :=
  match argIndex s.port.address with
  | some i => { s with args := s.args.set i data }
  | none => s

/-- OPERAND (R13 to R15): taken in READY and HALTED. The address stays (R184). -/
def execOperand (data : Byte) (s : State) : Host.Outcome State Fault Refusal :=
  if s.writesAt 0x10#6 && (s.device == .ready || s.device == .halted) then
    .next { s with operand := writeOperand data s.operand }
  else .next s

/-- READOUT (R190): the read data byte under way completes: the pointer advances, and SDO goes on to the byte
the next read returns (R183). The address stays (R184). -/
def execReadout (s : State) : Host.Outcome State Fault Refusal :=
  if s.readsAt 0x11#6 then
    .next { s with
      readout := s.readout.advance
      port := { s.port with sdo := .shifting s.readout.advance.next } }
  else .next s

/-- R184, R185: the port comes to `a` in a read: a wide register whose lowest byte stands there is captured. -/
def arriveAt (a : Address) (s : State) : State :=
  { s with port := { s.port with address := a, captured := s.capture a ++ s.port.captured } }

/-- R183: SDO goes on to the byte at the port's address, as it stands at the completion of the byte before. -/
def shiftOut (s : State) : State := { s with port := { s.port with sdo := .shifting (s.readAt s.port.address) } }

/-- R183 to R185: a read data byte completes: the address moves on by R184, a wide register it comes to is
captured, and SDO carries the next byte. -/
def finishReadByte (s : State) : State := shiftOut (arriveAt (nextAddress s.port.address) s)

/-- MULTI_BYTE_READ_CAPTURE: a read data byte completes and the read comes to `addr`, its next address by R184,
with the capture that it leads to (log 19). At READOUT the byte is the event of the row READOUT. -/
def execMultiByteReadCapture (addr : Address) (s : State) : Host.Outcome State Fault Refusal :=
  if s.portLive && s.port.mode == .read && nextAddress s.port.address == addr then
    if s.port.address = 0x11#6 then execReadout s else .next (finishReadByte s)
  else .next s

/-- R185: EVENTS and EVENT_ENABLE ignore writes during STARTING alone. -/
def State.takesEventWrites (s : State) : Bool := s.device != .starting

/-- EVENTS (R192), at its low or high byte. -/
def execEvents (data : Byte) (s : State) : Host.Outcome State Fault Refusal :=
  if s.writesAt 0x1A#6 || s.writesAt 0x1B#6 then
    .next { s with
      events := if s.takesEventWrites then clearLatches (s.port.address == 0x1B#6) data s.events else s.events
      port := { s.port with address := nextAddress s.port.address } }
  else .next s

/-- EVENT_ENABLE (R193), at its low or high byte. -/
def execEventEnable (data : Byte) (s : State) : Host.Outcome State Fault Refusal :=
  if s.writesAt 0x1C#6 || s.writesAt 0x1D#6 then
    .next { s with
      enables := if s.takesEventWrites then writeEnables (s.port.address == 0x1D#6) data s.enables else s.enables
      port := { s.port with address := nextAddress s.port.address } }
  else .next s

/-- TRANSACTION_END (R183): nCS rises; an incomplete byte is dropped; SDO is high impedance. -/
def execTransactionEnd (s : State) : Host.Outcome State Fault Refusal :=
  .next { s with port := { s.port with mode := .none, captured := [], sdo := .highZ } }

end Sys2Proof.Machine
end

