-- ==== Sys2Proof/Machine/Nv.lean ====
section
/-! DEFINITION. The NV array (Chapter 10): what one write leaves in its area, which copies are usable and
chosen (R165, R175), and the writes a commit and a start-up make (R166, R176, R177). -/

namespace Sys2Proof.Machine

/-! ### Areas (R164, R165) -/

/-- R165: a copy or area that start-up may use against the counter `k` of the current control block. -/
def Area.usable {α : Type} (k : Word) : Area α → Bool
  | .bad => false
  | .good .format _ => true
  | .good (.number n) _ => n != k && n != k + 1

/-- R165: content written by a commit that was not retired: its check passes and it is set aside. -/
def Area.setAside {α : Type} (k : Word) : Area α → Bool
  | .good (.number n) _ => n == k || n == k + 1
  | _ => false

/-- The content of an area that passes its check. -/
def Area.content {α : Type} : Area α → Option α
  | .bad => none
  | .good _ x => some x

/-- R165: how far behind the counter an area's writer number lies; format content is the furthest. -/
def Area.distance {α : Type} (k : Word) : Area α → Nat
  | .good (.number n) _ => (k - n).toNat
  | _ => 2 ^ 32

/-- R165: the copy start-up chooses: the usable one nearer behind the counter, copy A of two at the same
distance. -/
def Pair.choose {α : Type} (k : Word) (p : Pair α) : Current :=
  match p.a.usable k, p.b.usable k with
  | true, true => if p.a.distance k ≤ p.b.distance k then .copy .a else .copy .b
  | true, false => .copy .a
  | false, true => .copy .b
  | false, false => .neither

def Pair.get {α : Type} (p : Pair α) : CopyId → Area α
  | .a => p.a
  | .b => p.b

def Pair.set {α : Type} (p : Pair α) (c : CopyId) (x : Area α) : Pair α :=
  match c with
  | .a => { p with a := x }
  | .b => { p with b := x }

/-- R165, R178, R179: the content start-up loads from a pair. -/
def Pair.load {α : Type} (k : Word) (p : Pair α) : Option α :=
  match p.choose k with
  | .copy c => (p.get c).content
  | .neither => none

/-- R141: the ring position of a completion number. -/
def ringPosition (n : Word) : Fin 32 := ⟨n.toNat % 32, Nat.mod_lt _ (by decide)⟩

/-! ### Writes -/

/-- An area written whole: its content when the write completed, failing its check when it was cut or failed
(R164). -/
def writtenArea {α : Type} (done : Bool) (w : Writer) (x : α) : Area α := if done then .good w x else .bad

/-- R166: what a write of a table area leaves. -/
def NvArray.writeTable (nv : NvArray) (done : Bool) : TableWrite → NvArray
  | .home t c w r => { nv with home := nv.home.set t (nv.home[t].set c (writtenArea done w r)) }
  | .ring e =>
    { nv with ring := nv.ring.set (ringPosition e.number) (writtenArea done (.number e.number) e) }
  | .active c w b => { nv with active := nv.active.set c (writtenArea done w b) }
  | .channels c w x => { nv with channels := nv.channels.set c (writtenArea done w x) }
  | .slot i w x => { nv with slots := nv.slots.set i (writtenArea done w x) }

/-- R166, R180: what a write of a control block copy leaves. -/
def NvArray.writeControl (nv : NvArray) (done : Bool) (c : CopyId) (b : ControlBlock) : NvArray :=
  match c with
  | .a => { nv with controlA := writtenArea done (.number b.counter) b }
  | .b => { nv with controlB := writtenArea done (.number b.counter) b }

/-- R166: what the write of an intent leaves. -/
def NvArray.writeIntent (nv : NvArray) (done : Bool) (i : Intent) : NvArray :=
  { nv with intent := if done then .held i else .bad }

/-- What a start-up write leaves: a spoiled area fails its check either way (R177). -/
def NvArray.write (nv : NvArray) (done : Bool) : NvWrite → NvArray
  | .table w => nv.writeTable done w
  | .control c b => nv.writeControl done c b
  | .noIntent => { nv with intent := if done then .empty else .bad }
  | .spoilHome t c => { nv with home := nv.home.set t (nv.home[t].set c .bad) }
  | .spoilActive c => { nv with active := nv.active.set c .bad }
  | .spoilChannels c => { nv with channels := nv.channels.set c .bad }
  | .spoilSlot i => { nv with slots := nv.slots.set i .bad }

/-! ### The writes of a commit (R165, R166) -/

/-- R165: the copies a new content is written to: the one that is not current, or both, A and then B, where
neither was usable. -/
def Current.targets : Current → List CopyId
  | .copy c => [c.other]
  | .neither => [.a, .b]

/-- R166: the table writes of a commit, in the order its step 3 names the areas. -/
def commitTables (current : CurrentCopies) (p : Prepared) (configs : Vector ChannelConfig 8) :
    List TableWrite :=
  let w : Writer := .number p.entry.number
  (p.records.flatMap fun r => current.home[r.1].targets.map fun c => .home r.1 c w r.2) ++
  [.ring p.entry] ++
  (match p.bank with
   | some b => current.active.targets.map fun c => .active c w b
   | none => []) ++
  (match p.channelConfig with
   | some (i, x) => current.channels.targets.map fun c => .channels c w (configs.set i x)
   | none => []) ++
  (match p.capture with
   | some (i, x) => [.slot i w (some x)]
   | none => [])

/-- R166: the intent of a commit. -/
def buildIntent (current : CurrentCopies) (p : Prepared) (configs : Vector ChannelConfig 8) : Intent :=
  { number := p.entry.number, tables := commitTables current p configs, control := p.control,
    controlCopy := current.control.other }

/-- R165: a written copy becomes current. -/
def CurrentCopies.after (cur : CurrentCopies) : TableWrite → CurrentCopies
  | .home t c _ _ => { cur with home := cur.home.set t (.copy c) }
  | .active c _ _ => { cur with active := .copy c }
  | .channels c _ _ => { cur with channels := .copy c }
  | _ => cur

/-- R166: the current copies once a commit completes. -/
def CurrentCopies.afterCommit (cur : CurrentCopies) (i : Intent) : CurrentCopies :=
  { i.tables.foldl CurrentCopies.after cur with control := i.controlCopy }

/-! ### A cut or a failed write (R164, R167, R168) -/

/-- The array after the write or read-back under way in a commit is cut or fails: `written` says that the
area had been written whole. A cut of step 1 always leaves the intent failing its check (R168). -/
def NvArray.breakCommit (nv : NvArray) (written : Bool) (c : Commit) : NvArray :=
  match c.stage with
  | .intent => { nv with intent := .bad }
  | .verify => nv.writeIntent written c.intent
  | .tables [] => nv
  | .tables (w :: _) => nv.writeTable written w
  | .retire => nv.writeControl written c.intent.controlCopy c.intent.control

/-! ### Start-up (R175 to R177) -/

/-- R175: two control block copies that both pass: which is chosen. -/
def rankControls (a b : ControlBlock) : CopyId :=
  if a.counter = b.counter + 1 then .a
  else if b.counter = a.counter + 1 then .b
  else if a.counter = b.counter ∧ a.boot = b.boot then .a
  else if a.counter = b.counter ∧ (a.boot - b.boot).toNat < 2 ^ 31 then .a
  else if a.counter = b.counter ∧ (b.boot - a.boot).toNat < 2 ^ 31 then .b
  else if Config.unrankedControlIsA a.counter a.boot b.counter b.boot then .a else .b

/-- R175: the control block start-up chooses with its copy, or none: format. -/
def NvArray.chooseControl (nv : NvArray) : Option (ControlBlock × CopyId) :=
  match nv.controlA.content, nv.controlB.content with
  | none, none => none
  | some a, none => some (a, .a)
  | none, some b => some (b, .b)
  | some a, some b =>
    match rankControls a b with
    | .a => some (a, .a)
    | .b => some (b, .b)

/-- R176: the writes of a format. The control blocks come last; the order of the others, and copy A before
copy B, are a choice (log 32). -/
def formatWrites : List NvWrite :=
  ((List.finRange 64).flatMap fun t =>
    [.table (.home t .a .format Record.unused), .table (.home t .b .format Record.unused)]) ++
  [.table (.active .a .format (Vector.replicate 32 none)), .table (.active .b .format (Vector.replicate 32 none)),
   .table (.channels .a .format (Vector.replicate 8 ChannelConfig.formatted)),
   .table (.channels .b .format (Vector.replicate 8 ChannelConfig.formatted))] ++
  ((List.finRange 4).map fun i => .table (.slot i .format none)) ++
  [.noIntent, .control .a ControlBlock.formatted, .control .b ControlBlock.formatted]

/-- R177: the overwriting of one pair's set-aside copies, A before B (log 32). -/
def spoilPair {α : Type} (k : Word) (p : Pair α) (spoil : CopyId → NvWrite) : List NvWrite :=
  (if p.a.setAside k then [spoil .a] else []) ++ (if p.b.setAside k then [spoil .b] else [])

/-- R177: the writes of a discard: every set-aside home, active bank, channel configuration and slot area
overwritten, then the intent area as holding no intent. The order of the areas before it is a choice (log 32). -/
def discardWrites (nv : NvArray) (k : Word) : List NvWrite :=
  ((List.finRange 64).flatMap fun t => spoilPair k nv.home[t] (.spoilHome t)) ++
  spoilPair k nv.active .spoilActive ++
  spoilPair k nv.channels .spoilChannels ++
  ((List.finRange 4).flatMap fun i => if nv.slots[i].setAside k then [.spoilSlot i] else []) ++
  [.noIntent]

/-- R177: how the intent is settled. -/
inductive Settlement where
  | clean
  | rollForward (i : Intent)
  | discard
  deriving DecidableEq, Repr

/-- R177: the intent area against the chosen counter `k`. -/
def IntentArea.settlement (k : Word) : IntentArea → Settlement
  | .empty => .clean
  | .bad => .discard
  | .held i =>
    if i.number = k then .rollForward i
    else if (i.number - k).toNat < 2 ^ 31 then .discard
    else .clean

/-- R175 to R177: the writes start-up sets out on, from the array as it stands. -/
def planStartup (nv : NvArray) : StartupJob :=
  match nv.chooseControl with
  | none =>
    { settle := formatWrites, retried := false, control := ControlBlock.formatted, copy := .a,
      settled := ControlBlock.formatted, settledCopy := .a, action := .formatted }
  | some (b, c) =>
    match nv.intent.settlement b.counter with
    | .clean =>
      { settle := [], retried := false, control := b, copy := c, settled := b, settledCopy := c,
        action := .clean }
    | .rollForward i =>
      -- R177: into the non-current control block copy, which is the copy the intent names (R166)
      { settle := i.tables.map .table ++ [.control c.other i.control], retried := false, control := b, copy := c,
        settled := i.control, settledCopy := c.other, action := .rolledForward i.number }
    | .discard =>
      { settle := discardWrites nv b.counter, retried := false, control := b, copy := c, settled := b,
        settledCopy := c, action := .intentDiscarded }

/-- R180: the boot number write. -/
def StartupJob.bootWrite (j : StartupJob) : NvWrite :=
  .control j.copy.other { j.control with boot := j.control.boot + 1 }

/-- The start-up write under way. -/
def StartupJob.underWay (j : StartupJob) : NvWrite :=
  match j.settle with
  | w :: _ => w
  | [] => j.bootWrite

/-- The job once a settling write has been read back: the last of them puts the settled control block in
force. -/
def StartupJob.advance (j : StartupJob) : StartupJob :=
  match j.settle with
  | _ :: [] => { j with settle := [], retried := false, control := j.settled, copy := j.settledCopy }
  | _ :: rest => { j with settle := rest, retried := false }
  | [] => j

/-- R168, R174: the array after a cut of start-up at the write under way. -/
def NvArray.breakStartup (nv : NvArray) (written : Bool) : Startup → NvArray
  | .waiting => nv
  | .writing j => nv.write written j.underWay

end Sys2Proof.Machine
end

