-- ==== Sys2Proof/Machine/Startup.lean ====
section
/-! DEFINITION. Resets and start-up (R174 to R182): clearing the RAM state, setting out on start-up, the loads,
the report and the end of start-up. -/

namespace Sys2Proof.Machine

/-! ### Resets -/

/-- R174: every block's RAM state at its start-up value; the array, the line levels, the supply and the SPI
transaction are kept (log 21). -/
def State.ramCleared (s : State) : State :=
  State.cleared s.nv s.port s.cfgen s.pfail s.resetPin s.powered s.pending s.freeCount

/-- R175: start-up begins: it waits while PFAIL is asserted, otherwise sets out on its writes. -/
def beginStartup (s : State) : State :=
  { s.ramCleared with
    startup := some (if s.pfail then .waiting else .writing (planStartup s.nv)) }

/-- R113, R114: SOFT_RESET takes effect. -/
def softResetEffect (s : State) : State := beginStartup s

/-- R168, R174: a reset or power loss cuts whatever commit or start-up is under way; `written` says whether
the write under way had finished (log 11). -/
def cutWrites (written : Bool) (s : State) : State :=
  let nv := match s.commit with
    | some c => s.nv.breakCommit written c
    | none => s.nv
  let nv := match s.startup with
    | some j => nv.breakStartup written j
    | none => nv
  { s with nv := nv, commit := none, startup := none }

/-! ### The loads (R178, R179) -/

/-- R151: the entry with its completion number alone. -/
def JournalEntry.damagedAt (n : Word) : JournalEntry :=
  { number := n, boot := none, source := .damaged, item := none, channel := none, outcome := none, reason := none,
    failingLeg := none, epoch := none, generation := none, effects := [], folds := [], checkpoint := none }

/-- R150, R151: the entry a ring position gives for a completion number. -/
def readRing (nv : NvArray) (n : Word) : JournalEntry :=
  match nv.ring[ringPosition n] with
  | .good _ e => if e.number = n then e else JournalEntry.damagedAt n
  | .bad => JournalEntry.damagedAt n

/-- R150: the entries from the head up to one less than the counter; at most 32 (log 27). -/
def restoreEntries (nv : NvArray) (b : ControlBlock) : List JournalEntry :=
  (List.range (min (b.counter - b.head).toNat Config.journalCapacity)).map fun i =>
    readRing nv (b.head + BitVec.ofNat 32 i)

/-- R163, R179: a slot from its area: FILLED when the area holds a capture and is usable. -/
def restoreSlot (k : Word) (a : Area (Option Capture)) : Slot :=
  { content := if a.usable k then a.content.getD none else none, pinned := false, inFlight := false }

/-- R179: a slot is listed as emptied when its area fails its check or holds a set-aside capture. -/
def slotEmptied (k : Word) (a : Area (Option Capture)) : Bool :=
  match a with
  | .bad => true
  | .good _ none => false
  | .good _ (some _) => !a.usable k

/-- R178: a totaliser's published copy, its flags clear (R23). -/
def restoreTotaliser (k : Word) (p : Pair Record) : Totaliser :=
  { data := (p.load k).getD Record.lost, atUpper := false, atLower := false, refused := false }

/-- R179: the active bank; all invalid when neither copy is usable. -/
def restoreBank (k : Word) (p : Pair Bank) : Bank := (p.load k).getD (Vector.replicate 32 none)

/-- R179, R118: the channels from their stored configuration. -/
def restoreChannels (k : Word) (p : Pair (Vector ChannelConfig 8)) : Vector Channel 8 :=
  let configs := (p.load k).getD (Vector.replicate 8 ChannelConfig.formatted)
  Vector.ofFn fun c => { config := configs[c], run := ChannelRun.fresh configs[c].enabled }

/-- R182: the report of a start-up that loads from `nv` under the control block `b`. -/
def startupReport (nv : NvArray) (b : ControlBlock) (boot : Word) (action : StartupAction) (fault : Bool) : Report :=
  { boot := boot
    action := action
    faulted := (List.finRange 64).filter fun t => (nv.home[t].load b.counter).isNone
    emptied := (List.finRange 4).filter fun i => slotEmptied b.counter nv.slots[i]
    damaged := ((restoreEntries nv b).filter fun e => e.source == .damaged).length
    constantsLost := (nv.active.load b.counter).isNone
    channelsLost := (nv.channels.load b.counter).isNone
    nvFault := fault }

/-- R178, R179: the tables loaded, with the copies they were loaded from. -/
def loadTables (nv : NvArray) (b : ControlBlock) (controlCopy : CopyId) (s : State) : State :=
  { s with
    totals := Vector.ofFn fun t => restoreTotaliser b.counter nv.home[t]
    constants :=
      { active := restoreBank b.counter nv.active, pending := restoreBank b.counter nv.active, epoch := b.epoch,
        lock := none }
    channels := restoreChannels b.counter nv.channels
    checkpoints := { slots := Vector.ofFn fun i => restoreSlot b.counter nv.slots[i], counter := b.checkpoint }
    journal := { counter := b.counter, head := b.head, entries := restoreEntries nv b }
    generation := b.generation
    current :=
      { control := controlCopy
        home := Vector.ofFn fun t => nv.home[t].choose b.counter
        active := nv.active.choose b.counter
        channels := nv.channels.choose b.counter } }

/-! ### The end of start-up (R180, R181) -/

/-- R180: the device state at the end of start-up. -/
def deviceAfterStartup (pfail fault : Bool) : DeviceState :=
  if pfail then .powerdown else if fault then .halted else .ready

/-- R87: the engine state at the end of start-up. -/
def engineAfterStartup (pfail fault : Bool) (entries : Nat) : EngineState :=
  if pfail then .stopped else if fault then .halted else if Config.heldAt ≤ entries then .held else .idle

/-- R180, R181: the end of a start-up whose last write is done, or has failed twice (`fault`). A format that
failed leaves the values R176 gives, in RAM. -/
def endStartup (j : StartupJob) (fault : Bool) (s : State) : State :=
  let nv := if fault && j.action == .formatted && !j.settle.isEmpty then NvArray.formatted else s.nv
  let boot := j.control.boot + 1
  let s := loadTables nv j.control (if fault then j.copy else j.copy.other) s
  let s := { s with
    startup := none
    boot := boot
    report := startupReport nv j.control boot j.action fault
    device := deviceAfterStartup s.pfail fault
    pfTaken := s.pfail
    engine := { s.engine with state := engineAfterStartup s.pfail fault s.journal.entries.length } }
  raiseIf s.pfail .pfail (raiseIf fault .nvFault (raise .ready s))

/-- R181: the start-up write under way is read back. -/
def startupWriteDone (matched : Bool) (j : StartupJob) (s : State) : State :=
  let s := { s with nv := s.nv.write matched j.underWay }
  if matched then
    match j.settle with
    | [] => endStartup j false s
    | _ :: _ => { s with startup := some (.writing j.advance) }
  else if j.retried then endStartup j true s
  else { s with startup := some (.writing { j with retried := true }) }

end Sys2Proof.Machine
end

