-- ==== Sys2Proof/Machine/Tables.lean ====
section
/-! DEFINITION. The immediate commands on the tables: WRITE_PENDING (R46), ACK_STATUS (R35), POP (R148), PIN and
UNPIN (R159, R160), and SOFT_RESET (R113). -/

namespace Sys2Proof.Machine

/-- R46: the arguments of WRITE_PENDING: the index with the sign and scale of a valid entry, or none. -/
def pendingArguments (args : Vector Byte 12) : Option (Fin 32 × Option (Bool × Nat)) :=
  match indexArg 32 args[0], bitArg args[1] with
  | some i, some false => some (i, none)
  | some i, some true =>
    match bitArg args[2], boundedArg 10 args[3] with
    | some neg, some scale => some (i, some (neg, scale))
    | _, _ => none
  | _, _ => none

/-- R46 to R48: WRITE_PENDING past its device-state test. -/
def writePendingRun (s : State) : State × ResultCode :=
  match pendingArguments s.args with
  | none => refuse .badArgument s
  | some (i, form) =>
    if s.constants.lock.isSome then refuse .pendingLocked s
    else match form with
      | none => ({ s with constants := { s.constants with pending := s.constants.pending.set i none } }, .ok)
      | some (neg, scale) =>
        if s.operand.acceptedConstant then
          ({ s with constants :=
            { s.constants with
              pending := s.constants.pending.set i (some (Dec.ofSign neg s.operand.coefficient scale)) } }, .ok)
        else refuse .badOperand s

/-- WRITE_PENDING. -/
def execWritePending (s : State) : Host.Outcome State Fault Refusal :=
  takeCommand 0x07#8 true (whenReady writePendingRun) s

/-- R35: ACK_STATUS past its device-state test. -/
def ackStatusRun (s : State) : State × ResultCode :=
  match indexArg 64 s.args[0] with
  | none => refuse .badArgument s
  | some t => ({ s with totals := s.totals.set t s.totals[t].unmarked }, .ok)

/-- ACK_STATUS. -/
def execAckStatus (s : State) : Host.Outcome State Fault Refusal :=
  takeCommand 0x08#8 false (unlessPowerdown ackStatusRun) s

/-- R112: a HELD engine becomes IDLE when 30 entries or fewer are left. -/
def endHeld (s : State) : State :=
  if s.engine.state = .held ∧ s.journalCount < Config.heldAt then
    { s with engine := { s.engine with state := .idle } }
  else s

/-- R148: POP past its device-state test. -/
def popRun (s : State) : State × ResultCode :=
  match s.journal.entries with
  | [] => refuse .wrongState s
  | _ :: rest =>
    (endHeld { s with journal := { s.journal with head := s.journal.head + 1, entries := rest } }, .ok)

/-- POP. -/
def execPop (s : State) : Host.Outcome State Fault Refusal := takeCommand 0x09#8 false (unlessPowerFail popRun) s

/-- A slot's pin set or cleared. -/
def setPin (i : Fin 4) (pinned : Bool) (s : State) : State :=
  { s with checkpoints :=
    { s.checkpoints with slots := s.checkpoints.slots.set i { s.checkpoints.slots[i] with pinned := pinned } } }

/-- R159: PIN past its device-state test. -/
def pinRun (s : State) : State × ResultCode :=
  match indexArg 4 s.args[0] with
  | none => refuse .badArgument s
  | some i =>
    if s.checkpoints.slots[i].content.isNone then refuse .wrongState s
    else if s.checkpoints.slots[i].inFlight then refuse .tooLate s
    else (setPin i true s, .ok)

/-- PIN. -/
def execPin (s : State) : Host.Outcome State Fault Refusal := takeCommand 0x0A#8 false (unlessPowerFail pinRun) s

/-- R160: UNPIN past its device-state test. -/
def unpinRun (s : State) : State × ResultCode :=
  match indexArg 4 s.args[0] with
  | none => refuse .badArgument s
  | some i =>
    if s.checkpoints.slots[i].content.isNone then refuse .wrongState s
    else (setPin i false s, .ok)

/-- UNPIN. -/
def execUnpin (s : State) : Host.Outcome State Fault Refusal :=
  takeCommand 0x0B#8 false (unlessPowerFail unpinRun) s

/-- R113, R114: SOFT_RESET past its device-state test: deferred while the engine is PERSISTING, otherwise at
once. -/
def softResetRun (s : State) : State × ResultCode :=
  if s.engine.state = .persisting then
    ({ s with engine := { s.engine with deferredReset := true } }, .ok)
  else (softResetEffect s, .ok)

/-- SOFT_RESET. -/
def execSoftReset (s : State) : Host.Outcome State Fault Refusal :=
  takeCommand 0x3F#8 false (unlessPowerFail softResetRun) s

end Sys2Proof.Machine
end

