-- ==== Sys2Proof/Machine/DataBytes.lean ====
section
/-! DEFINITION. REGISTER_WRITE: a completed write data byte at the port's address (R184, R185), and the command
that a byte written to COMMAND takes (R188). -/

namespace Sys2Proof.Machine

/-- R188, R189: the command of a code byte, taken. -/
def takeCode (code : Byte) (s : State) : Host.Outcome State Fault Refusal :=
  match code.toNat with
  | 0x01 => execOpen s
  | 0x02 => execLeg s
  | 0x03 => execField s
  | 0x04 => execSubmit s
  | 0x05 => execDiscard s
  | 0x06 => execCancel s
  | 0x07 => execWritePending s
  | 0x08 => execAckStatus s
  | 0x09 => execPop s
  | 0x0A => execPin s
  | 0x0B => execUnpin s
  | 0x3F => execSoftReset s
  | 0x10 => execGateOpen s
  | 0x11 => execGateClose s
  | 0x12 => execFoldNow s
  | 0x13 => execClearFault s
  | 0x14 => execAckStray s
  | 0x21 => execLoadTotaliser s
  | 0x22 => execLoadConstant s
  | 0x23 => execLoadChannel s
  | 0x24 => execLoadQueueEntry s
  | 0x25 => execLoadJournal s
  | 0x26 => execLoadCheckpoint s
  | 0x27 => execLoadDraft s
  | 0x28 => execLoadStartupReport s
  | _ => execUnknownCommand code s

/-- R184, R185: a completed write data byte at the port's address. -/
def writeDataByte (data : Byte) (s : State) : Host.Outcome State Fault Refusal :=
  match s.port.address.toNat with
  | 0x02 => takeCode data s
  | 0x10 => execOperand data s
  | 0x1A => execEvents data s
  | 0x1B => execEvents data s
  | 0x1C => execEventEnable data s
  | 0x1D => execEventEnable data s
  | _ => .next (writeRegister data s).advancePort

/-- REGISTER_WRITE: at COMMAND, OPERAND, EVENTS and EVENT_ENABLE the byte is the event of their own rows
(log 20). -/
def execRegisterWrite (data : Byte) (s : State) : Host.Outcome State Fault Refusal :=
  if s.portLive && s.port.mode == .write then writeDataByte data s else .next s

end Sys2Proof.Machine
end

