-- ==== Sys2Proof/Machine/Totaliser.lean ====
section
/-! DEFINITION. The application of one change to one totaliser record (Chapter 2, R24 to R32), and the
evaluation of a CONFIGURE_TOTALISER (R38 to R42). -/

namespace Sys2Proof.Machine

/-! ### One change (R24 to R32) -/

/-- R24: a change: an exact delta (ADD, SUBTRACT, folds), an exact amount to SET, or CLEAR. -/
inductive Change where
  | delta (d : Dec)
  | set (d : Dec)
  | clear
  deriving DecidableEq, Repr

/-- R31: which bound a value was clamped to. -/
inductive Clamp where
  | none | upper | lower
  deriving DecidableEq, Repr

/-- R25: what a change that passes yields. -/
structure Applied where
  value   : Int
  residue : Nat
  mark    : Mark
  clamp   : Clamp
  deriving DecidableEq, Repr

/-- R26: the KIND check. -/
def kindAdmits (k : Kind) : Change → Bool
  | .delta _ => true
  | .set _ => k == .balance
  | .clear => k != .monotonic

/-- R27: the DIRECTION check, on the exact delta before alignment. -/
def directionAdmits (k : Kind) : Change → Bool
  | .delta d => k == .balance || decide (0 ≤ d.value)
  | _ => true

/-- R28: the candidate value and candidate residue. -/
def candidate (r : Record) : Change → Int × Nat
  | .delta d =>
    if r.rounding = .carry then
      let c := carryCombine r.residue (carryFraction d.value.natAbs d.scale r.scale)
      (r.value + carryWhole d.value.natAbs d.scale r.scale + c.1, c.2)
    else (r.value + d.align r.rounding r.scale, 0)
  | .set d => (d.align r.rounding r.scale, 0)
  | .clear => (0, 0)

/-- R29: the upper bound of a record. -/
def Record.upperBound (r : Record) : Int := r.upper.getD Config.capacity

/-- R29: the lower bound of a record. -/
def Record.lowerBound (r : Record) : Int :=
  r.lower.getD (if r.kind = .balance then -Config.capacity else 0)

/-- R29 to R32: a candidate taken, refused, clamped or wrapped under the record's policy. A candidate below
the lower bound of a WRAP record cannot arise (R32) and is refused with LIMIT (log 23). -/
def bounded (r : Record) (c : Int × Nat) : Except Reason Applied :=
  if r.lowerBound ≤ c.1 ∧ c.1 ≤ r.upperBound then .ok { value := c.1, residue := c.2, mark := .none, clamp := .none }
  else match r.policy with
    | .reject => .error .limit
    | .saturate =>
      if r.upperBound < c.1 then .ok { value := r.upperBound, residue := 0, mark := .saturated, clamp := .upper }
      else .ok { value := r.lowerBound, residue := 0, mark := .saturated, clamp := .lower }
    | .wrap =>
      if r.upperBound < c.1 then
        .ok { value := c.1 % (Config.capacity + 1), residue := c.2, mark := .wrapped, clamp := .none }
      else .error .limit

/-- R24: a change offered to a record: KIND, DIRECTION, then the bounds. -/
def applyChange (r : Record) (c : Change) : Except Reason Applied :=
  if !kindAdmits r.kind c then .error .kind
  else if !directionAdmits r.kind c then .error .direction
  else bounded r (candidate r c)

/-- R25, R96: a record with the new value and residue of an effect. -/
def Record.take (r : Record) (a : Applied) : Record := { r with value := a.value, residue := a.residue }

/-- R25: the effect of a change on a target. -/
def Applied.effect (a : Applied) (target : Fin 64) (r : Record) : Effect :=
  { target := target, value := a.value, residue := a.residue, scale := r.scale, mark := a.mark }

/-- R100, R172: an effect marked SKIPPED: the target's value and residue as they stand. -/
def skippedEffect (target : Fin 64) (r : Record) : Effect :=
  { target := target, value := r.value, residue := r.residue, scale := r.scale, mark := .skipped }

/-- R34: the status flags an effect marks on its target. -/
def Applied.marks (a : Applied) (target : Fin 64) : List (Fin 64 × StatusFlag) :=
  match a.mark, a.clamp with
  | .wrapped, _ => [(target, .atUpper)]
  | _, .upper => [(target, .atUpper)]
  | _, .lower => [(target, .atLower)]
  | _, _ => []

/-- R34: the reasons for which a failing change marks REFUSED. -/
def Reason.marksRefused : Reason → Bool
  | .kind => true
  | .direction => true
  | .limit => true
  | _ => false

/-- A record's value as a decimal: its residue is left out (R3). -/
def Record.decimal (r : Record) : Dec := { value := r.value, scale := r.scale }

/-! ### CONFIGURE_TOTALISER (R38 to R42) -/

/-- R39: a limit of the resulting record at the resulting scale: carried, removed, or the present one; none
when the exact alignment fails. -/
def mergedLimit (carried : Option (Option Dec)) (present : Option Int) (oldScale newScale : Nat) :
    Option (Option Int) :=
  match carried with
  | some none => some none
  | some (some d) => (d.alignExact newScale).map some
  | none =>
    match present with
    | none => some none
    | some v => (({ value := v, scale := oldScale } : Dec).alignExact newScale).map some

/-- R39: the value of the resulting record at the resulting scale, or none when the alignment fails. -/
def mergedValue (f : TotFields) (r : Record) (newScale : Nat) : Option Int :=
  match f.initial with
  | some d => d.alignExact newScale
  | none => r.decimal.alignExact newScale

/-- R39: whether the item brings its record to ACTIVE or finds it so. -/
def bringsActive (f : TotFields) (r : Record) : Bool :=
  r.state == .active || f.initial.isSome || f.active == some true

/-- R39: the resulting record, or none when an exact alignment fails. Its revision is left as it was. -/
def mergeRecord (f : TotFields) (r : Record) : Option Record :=
  let scale := f.scale.getD r.scale
  let rounding := f.rounding.getD r.rounding
  match mergedLimit f.upper r.upper r.scale scale, mergedLimit f.lower r.lower r.scale scale,
    mergedValue f r scale with
  | some upper, some lower, some value =>
    some
      { state := .active
        kind := f.kind.getD r.kind
        scale := scale
        rounding := rounding
        policy := f.policy.getD r.policy
        upper := upper
        lower := lower
        value := value
        residue := if f.initial.isSome || rounding != .carry || scale != r.scale then 0 else r.residue
        revision := r.revision }
  | _, _, _ => none

/-- R21: the combinations of kind, rounding, policy and limits that a record may hold. -/
def Record.legal (r : Record) : Bool :=
  !(r.rounding == .carry && r.kind == .balance) &&
  !(r.policy == .wrap && r.kind == .balance) &&
  !(r.policy == .wrap && r.upper.isSome) &&
  !(r.lower.isSome && r.kind != .balance) &&
  (match r.upper, r.lower with
   | some u, some l => decide (l ≤ u)
   | _, _ => true)

/-- R40: an INITIAL that is negative on a kind that does not admit it. -/
def initialMisfits (f : TotFields) (k : Kind) : Bool :=
  match f.initial with
  | some d => decide (d.value < 0) && k != .balance
  | none => false

/-- R40: the scale changes on an ACTIVE record without INITIAL. -/
def scaleMisfits (f : TotFields) (r : Record) : Bool :=
  f.scale.getD r.scale != r.scale && r.state == .active && f.initial.isNone

/-- R40, R41: the resulting record, or BAD_CONFIG, or OUT_OF_LIMITS. -/
def resultingRecord (f : TotFields) (r : Record) : Except Reason Record :=
  match mergeRecord f r with
  | none => .error .badConfig
  | some n =>
    if !n.legal || initialMisfits f n.kind || scaleMisfits f r || !bringsActive f r then .error .badConfig
    else if n.value < n.lowerBound ∨ n.upperBound < n.value then .error .outOfLimits
    else .ok n

/-- R38: the evaluation of a CONFIGURE_TOTALISER: PROTECTED, then for STATE UNUSED the BOUND check alone,
otherwise the resulting record. -/
def evalConfigureTotaliser (cfgen bound : Bool) (f : TotFields) (r : Record) : Except Reason Record :=
  if !cfgen then .error .protected_
  else if f.active = some false then
    (if bound then .error .bound else .ok Record.unused)
  else resultingRecord f r

end Sys2Proof.Machine
end

