-- ==== Sys2Proof/Machine/Evaluate.lean ====
section
/-! DEFINITION. The evaluation of items at their take (R94): postings leg by leg (R95 to R103), folds (R130),
the emergency fold (R172), configuration items, SWITCH and CHECKPOINT, and what each prepares for publication
(R103, R104). -/

namespace Sys2Proof.Machine

/-- The records an evaluation works on: one for each totaliser (R96). -/
abbrev Working := Vector Record 64

/-- R96: working copies formed from the published copies. -/
def State.working (s : State) : Working := Vector.ofFn fun t => s.totals[t].data

/-! ### A leg (R97 to R101) -/

/-- R98 step 1: the target, a TOTALISER source and a guard totaliser are ACTIVE. -/
def legActive (work : Working) (leg : Leg) : Bool :=
  work[leg.target].state == .active &&
  (match leg.source with
   | .totaliser t => work[t].state == .active
   | _ => true) &&
  (match leg.guard with
   | some g => work[g.totaliser].state == .active
   | none => true)

/-- R99: every constant the leg names is valid. -/
def legConstantsValid (bank : Bank) (leg : Leg) : Bool :=
  (match leg.source with
   | .constant k => bank[k].isSome
   | _ => true) &&
  (match leg.multiplier with
   | some m => bank[m].isSome
   | none => true) &&
  (match leg.guard with
   | some g => bank[g.threshold].isSome
   | none => true)

/-- A constant entry read as a decimal. It is read only after R99 has found it valid. -/
def entryValue (bank : Bank) (k : Fin 32) : Dec := bank[k].getD ⟨0, 0⟩

/-- R100: whether the leg goes on: it has no guard, or its relation holds. -/
def guardHolds (bank : Bank) (work : Working) (leg : Leg) : Bool :=
  match leg.guard with
  | none => true
  | some g => g.relation.holds work[g.totaliser].decimal (entryValue bank g.threshold)

/-- R97: the amount of a source. -/
def sourceAmount (bank : Bank) (work : Working) : Source → Dec
  | .immediate d => d
  | .constant k => entryValue bank k
  | .totaliser t => work[t].decimal
  | .none => ⟨0, 0⟩

/-- R97: the exact amount of a leg: its source, times its multiplier where one is present. -/
def legAmount (bank : Bank) (work : Working) (leg : Leg) : Dec :=
  match leg.multiplier with
  | some m => (sourceAmount bank work leg.source).mul (entryValue bank m)
  | none => sourceAmount bank work leg.source

/-- R24, R97: the change a leg offers to its target. -/
def legChange (bank : Bank) (work : Working) (leg : Leg) : Change :=
  match leg.op with
  | .add => .delta (legAmount bank work leg)
  | .subtract => .delta (legAmount bank work leg).neg
  | .set => .set (legAmount bank work leg)
  | .clear => .clear

/-- What a leg yields: its effect and the status flags it marks. -/
structure LegResult where
  effect : Effect
  marks  : List (Fin 64 × StatusFlag)
  deriving DecidableEq, Repr

/-- R98: a leg tested in the fixed order, giving its effect or the reason that rejects the posting. -/
def evalLeg (bank : Bank) (mode : GuardMode) (work : Working) (leg : Leg) : Except Reason LegResult :=
  if !legActive work leg then .error .notActive
  else if !legConstantsValid bank leg then .error .badConstant
  else if !guardHolds bank work leg then
    match mode with
    | .skip => .ok { effect := skippedEffect leg.target work[leg.target], marks := [] }
    | .require => .error .guardFailed
  else match applyChange work[leg.target] (legChange bank work leg) with
    | .error r => .error r
    | .ok a => .ok { effect := a.effect leg.target work[leg.target], marks := a.marks leg.target }

/-- R96: the working copies after an effect; a SKIPPED effect changes none. -/
def takeEffect (work : Working) (e : Effect) : Working :=
  if e.mark = .skipped then work
  else work.set e.target { work[e.target] with value := e.value, residue := e.residue }

/-- R96, R102: the legs in order from index `i`: their results with the final working copies, or the reason
and index of the first leg that fails. -/
def evalLegs (bank : Bank) (mode : GuardMode) :
    Nat → Working → List Leg → Except (Reason × Nat) (List LegResult × Working)
  | _, work, [] => .ok ([], work)
  | i, work, leg :: rest =>
    match evalLeg bank mode work leg with
    | .error r => .error (r, i)
    | .ok x =>
      match evalLegs bank mode (i + 1) (takeEffect work x.effect) rest with
      | .error e => .error e
      | .ok (xs, w) => .ok (x :: xs, w)

/-- R95: the leg names a constant. -/
def Leg.namesConstant (leg : Leg) : Bool :=
  (match leg.source with
   | .constant _ => true
   | _ => false) || leg.multiplier.isSome || leg.guard.isSome

/-- R95: the epoch check: the lowest leg that names a constant, when the epochs differ. -/
def epochMismatch (expected active : Half) (legs : List Leg) : Option Nat :=
  if expected = active then none else legs.findIdx? Leg.namesConstant

/-- R103, R172: the records given a value: those with an effect that is not SKIPPED, with the item's
completion number as revision. -/
def givenRecords (number : Word) (effects : List Effect) (work : Working) : List (Fin 64 × Record) :=
  ((List.finRange 64).filter fun t => effects.any fun e => e.target == t && e.mark != .skipped).map fun t =>
    (t, { work[t] with revision := number })

/-! ### What every item prepares (R104, R143, R144) -/

/-- The entry of an item taken now, before its own fields: number, boot, outcome, epoch and generation. -/
def State.blankEntry (s : State) (source : SourceKind) : JournalEntry :=
  { number := s.journal.counter, boot := some s.boot, source := source, item := none, channel := none,
    outcome := some .applied, reason := none, failingLeg := none, epoch := some s.constants.epoch,
    generation := some s.generation, effects := [], folds := [], checkpoint := none }

/-- The entry of a queued item: with its sequence number and host tag. -/
def State.itemEntry (s : State) (source : SourceKind) (q : QueueItem) : JournalEntry :=
  { s.blankEntry source with item := some (q.seq, q.draft.tag) }

/-- An entry of a rejected item. -/
def JournalEntry.reject (e : JournalEntry) (r : Reason) : JournalEntry :=
  { e with outcome := some .rejected, reason := some r }

/-- R104: the control block values of an item that changes no other count: the completion counter past the
item's number, the journal head as it stands at the take. -/
def State.nextControl (s : State) : ControlBlock :=
  { counter := s.journal.counter + 1, boot := s.boot, epoch := s.constants.epoch, generation := s.generation,
    head := s.journal.head, checkpoint := s.checkpoints.counter }

/-- An outcome that changes nothing but the journal. -/
def State.prepare (s : State) (e : JournalEntry) : Prepared :=
  { entry := e, records := [], marks := [], clearFlags := none, bank := none, channelConfig := none,
    capture := none, folds := [], control := s.nextControl }

/-! ### The queued kinds -/

/-- R34, R103: REFUSED on the failing leg's target for KIND, DIRECTION and LIMIT. -/
def refusedMark (r : Reason) (target : Option (Fin 64)) : List (Fin 64 × StatusFlag) :=
  match target with
  | some t => if r.marksRefused then [(t, .refused)] else []
  | none => []

/-- R95 to R103: a POSTING. -/
def preparePosting (s : State) (q : QueueItem) (expected : Half) (mode : GuardMode) (legs : List Leg) :
    Prepared :=
  let e := s.itemEntry .posting q
  match epochMismatch expected s.constants.epoch legs with
  | some i => s.prepare { e.reject .epochMismatch with failingLeg := some i }
  | none =>
    match evalLegs s.constants.active mode 0 s.working legs with
    | .error (r, i) =>
      { s.prepare { e.reject r with failingLeg := some i } with
        marks := refusedMark r (legs[i]?.map Leg.target) }
    | .ok (results, work) =>
      let effects := results.map LegResult.effect
      { s.prepare { e with effects := effects } with
        records := givenRecords e.number effects work
        marks := results.flatMap LegResult.marks }

/-- R41: a channel whose stored configuration is enabled names the totaliser as its target. -/
def State.boundByChannel (s : State) (t : Fin 64) : Bool :=
  (List.finRange 8).any fun c => s.channels[c].config.enabled && s.channels[c].config.target == t

/-- R42, R143: the new value of a record at the scale its totaliser had at the take; a free value of at most 18
digits where it has no exact form there (log 15). -/
def valueAtScale (n : Record) (oldScale : Nat) : Int :=
  match n.decimal.alignExact oldScale with
  | some v => v
  | none => (Config.effectAtOldScale n.value n.scale oldScale).tmod (10 ^ 18)

/-- R42, R143: the one effect of an APPLIED CONFIGURE_TOTALISER, at the scale its totaliser had at the take.
The residue is +0 when the scale changes (R39). -/
def configureEffect (t : Fin 64) (old n : Record) : Effect :=
  { target := t, value := valueAtScale n old.scale, residue := n.residue, scale := old.scale, mark := .none }

/-- R38 to R42: a CONFIGURE_TOTALISER. -/
def prepareConfigureTotaliser (s : State) (q : QueueItem) (t : Fin 64) (f : TotFields) : Prepared :=
  let e := s.itemEntry .configureTotaliser q
  match evalConfigureTotaliser s.cfgen (s.boundByChannel t) f s.totals[t].data with
  | .error r => s.prepare (e.reject r)
  | .ok n =>
    let generation := s.generation + 1
    { s.prepare
        { e with
          generation := some generation
          effects := [configureEffect t s.totals[t].data n] } with
      records := [(t, { n with revision := e.number })]
      clearFlags := if f.active = some false then some t else none
      control := { s.nextControl with generation := generation } }

/-- R135: the resulting configuration. -/
def mergeChannel (f : ChannelFields) (c : ChannelConfig) : ChannelConfig :=
  { enabled := f.enabled.getD c.enabled
    edge := f.edge.getD c.edge
    spacing := f.spacing.getD c.spacing
    target := f.target.getD c.target
    quantum := f.quantum.getD c.quantum
    direction := f.direction.getD c.direction
    threshold := f.threshold.getD c.threshold }

/-- R135 step 2: the channel is free to be reconfigured. -/
def ChannelRun.free (r : ChannelRun) : Bool :=
  r.state == .disabled || (r.state == .idle && r.unfolded == 0 && r.inFlight.isNone)

/-- R135: the evaluation of a CONFIGURE_CHANNEL. -/
def evalConfigureChannel (cfgen : Bool) (work : Working) (f : ChannelFields) (ch : Channel) :
    Except Reason ChannelConfig :=
  if !cfgen then .error .protected_
  else if !ch.run.free then .error .channelBusy
  else
    let n := mergeChannel f ch.config
    if n.enabled && work[n.target].state != .active then .error .notActive else .ok n

/-- R135 to R137: a CONFIGURE_CHANNEL. -/
def prepareConfigureChannel (s : State) (q : QueueItem) (c : Fin 8) (f : ChannelFields) : Prepared :=
  let e := s.itemEntry .configureChannel q
  match evalConfigureChannel s.cfgen s.working f s.channels[c] with
  | .error r => s.prepare (e.reject r)
  | .ok n =>
    let generation := s.generation + 1
    { s.prepare { e with generation := some generation } with
      channelConfig := some (c, n)
      control := { s.nextControl with generation := generation } }

/-- R52: a SWITCH: the pending bank copied, the epoch plus one modulo 65536; always APPLIED. -/
def prepareSwitch (s : State) (q : QueueItem) : Prepared :=
  let epoch := s.constants.epoch + 1
  { s.prepare { s.itemEntry .switch q with epoch := some epoch } with
    bank := some s.constants.pending
    control := { s.nextControl with epoch := epoch } }

/-- How far a slot's capture lies behind the checkpoint counter (R154). -/
def Slot.age (counter : Word) (x : Slot) : Nat :=
  match x.content with
  | some c => (counter - c.number).toNat
  | none => 0

/-- R155 step 2: of two slots, the one to replace: unpinned, and the older; the first of two equal ones. -/
def olderSlot (k : Checkpoints) (best : Option (Fin 4)) (i : Fin 4) : Option (Fin 4) :=
  if k.slots[i].pinned then best
  else match best with
    | none => some i
    | some j => if k.slots[j].age k.counter < k.slots[i].age k.counter then some i else some j

/-- R155: the slot a CHECKPOINT chooses: the lowest EMPTY one, else the oldest unpinned one, else none. -/
def chooseSlot (k : Checkpoints) : Option (Fin 4) :=
  match (List.finRange 4).find? fun i => k.slots[i].content.isNone with
  | some i => some i
  | none => (List.finRange 4).foldl (olderSlot k) none

/-- R156: the capture of a selection, in ascending index; UNUSED records are left out. -/
def captureEntries (work : Working) (selection : BitVec 64) : List CaptureEntry :=
  ((List.finRange 64).filter fun t => selection.getLsbD t.val && work[t].state != .unused).map fun t =>
    { index := t, state := work[t].state, value := work[t].value, scale := work[t].scale,
      residue := work[t].residue }

/-- R155 to R157: a CHECKPOINT. -/
def prepareCheckpoint (s : State) (q : QueueItem) (selection : BitVec 64) : Prepared :=
  let e := s.itemEntry .checkpoint q
  match chooseSlot s.checkpoints with
  | none => s.prepare (e.reject .noSlot)
  | some i =>
    { s.prepare { e with checkpoint := some (i, s.checkpoints.counter) } with
      capture := some (i,
        { number := s.checkpoints.counter, completion := e.number, boot := s.boot, epoch := s.constants.epoch,
          generation := s.generation, entries := captureEntries s.working selection })
      control := { s.nextControl with checkpoint := s.checkpoints.counter + 1 } }

/-- R94: the evaluation of a queued item by its kind. -/
def prepareItem (s : State) (q : QueueItem) : Prepared :=
  match q.draft.body with
  | .posting expected mode legs => preparePosting s q expected mode legs
  | .configureTotaliser t f => prepareConfigureTotaliser s q t f
  | .configureChannel c f => prepareConfigureChannel s q c f
  | .switch => prepareSwitch s q
  | .checkpoint selection => prepareCheckpoint s q selection

/-! ### Folds (R130, R139, R172) -/

/-- R130: the change of a fold: the pulse count times the quantum, with the direction's sign. -/
def foldChange (config : ChannelConfig) (n : Nat) : Change :=
  let amount := Dec.mul ⟨n, 0⟩ config.quantum
  match config.direction with
  | .add => .delta amount
  | .subtract => .delta amount.neg

/-- R130: a fold's change offered to a record. -/
def evalFold (r : Record) (config : ChannelConfig) (n : Nat) : Except Reason Applied :=
  if r.state != .active then .error .notActive else applyChange r (foldChange config n)

/-- R129, R130: a FOLD of a channel. -/
def prepareFold (s : State) (c : Fin 8) : Prepared :=
  let ch := s.channels[c]
  let data := ch.foldRecord c
  let t := ch.config.target
  let r := s.totals[t].data
  let e := { s.blankEntry .fold with channel := some c, folds := [data] }
  match evalFold r ch.config data.count with
  | .error reason =>
    { s.prepare (e.reject reason) with
      marks := refusedMark reason (some t)
      folds := [{ data := data, placed := false }] }
  | .ok a =>
    { s.prepare { e with effects := [a.effect t r] } with
      records := [(t, { r.take a with revision := e.number })]
      marks := a.marks t
      folds := [{ data := data, placed := true }] }

/-- R172: what a covered channel gives: its fold record, its effect, its marks, and the reason that refused
it. -/
structure CoveredResult where
  data   : FoldRecord
  effect : Effect
  marks  : List (Fin 64 × StatusFlag)
  reason : Option Reason
  deriving DecidableEq, Repr

/-- R172: one covered channel against the working copies. -/
def evalCovered (channels : Vector Channel 8) (work : Working) (c : Fin 8) : CoveredResult :=
  let ch := channels[c]
  let data := ch.foldRecord c
  let t := ch.config.target
  match evalFold work[t] ch.config data.count with
  | .error r => { data := data, effect := skippedEffect t work[t], marks := refusedMark r (some t), reason := some r }
  | .ok a => { data := data, effect := a.effect t work[t], marks := a.marks t, reason := none }

/-- R172: the covered channels in ascending order. -/
def evalAllCovered (channels : Vector Channel 8) :
    Working → List (Fin 8) → List CoveredResult × Working
  | work, [] => ([], work)
  | work, c :: rest =>
    let x := evalCovered channels work c
    let r := evalAllCovered channels (takeEffect work x.effect) rest
    (x :: r.1, r.2)

/-- R139: the channels the emergency fold covers, ascending. -/
def State.covered (s : State) : List (Fin 8) :=
  (List.finRange 8).filter fun c => decide (0 < s.channels[c].run.unfolded)

/-- R172: the EMERGENCY_FOLD: APPLIED when some channel yields an effect, otherwise REJECTED with the reason
of the lowest covered channel. -/
def prepareEmergency (s : State) : Prepared :=
  let (results, work) := evalAllCovered s.channels s.working s.covered
  let e := { s.blankEntry .emergencyFold with folds := results.map CoveredResult.data }
  let folds := results.map fun x => { data := x.data, placed := x.reason.isNone : FlightFold }
  let marks := results.flatMap CoveredResult.marks
  if results.any fun x => x.reason.isNone then
    let effects := results.map CoveredResult.effect
    { s.prepare { e with effects := effects } with
      records := givenRecords e.number effects work
      marks := marks
      folds := folds }
  else
    { s.prepare { e with outcome := some .rejected, reason := results.head?.bind CoveredResult.reason } with
      marks := marks
      folds := folds }

end Sys2Proof.Machine
end

