-- ==== Sys2Proof/Machine/Flight.lean ====
section
/-! DEFINITION. The flight of an item: the choice and the take (R89 to R93), the commit's progress (R166, R167),
publication (R107 to R109), the power-fail work (R170 to R173) and the deferred SOFT_RESET (R114). -/

namespace Sys2Proof.Machine

/-! ### Choosing (R89 to R92) -/

/-- R78, R89: the queue offers its head while the head is QUEUED. -/
def State.offeredHead (s : State) : Option QueueItem :=
  match s.queue.items with
  | q :: _ => if q.active then none else some q
  | [] => none

/-- R92: the channels in the order of service after the one served last. -/
def serviceOrder (last : Fin 8) : List (Fin 8) := (List.range 8).map fun i => last + Fin.ofNat 8 (i + 1)

/-- R92: the fold request the engine takes. -/
def State.offeredFold (s : State) : Option (Fin 8) :=
  (serviceOrder s.engine.lastServed).find? fun c => s.channels[c].run.request

/-- R90: what a take takes. -/
inductive Choice where
  | head (q : QueueItem)
  | fold (c : Fin 8)
  deriving DecidableEq, Repr

/-- R90: the choice among what is offered. -/
def State.choice (s : State) : Option Choice :=
  match s.offeredHead, s.offeredFold with
  | none, none => none
  | some q, none => some (.head q)
  | none, some c => some (.fold c)
  | some q, some c => if s.engine.fairness < Config.fairFolds then some (.fold c) else some (.head q)

/-- R89: the engine may take an item. -/
def State.mayTake (s : State) : Bool :=
  s.engine.state == .idle && s.device == .ready && !s.pfTaken && !s.engine.deferredReset

/-! ### The take (R93) -/

/-- R93, R166: an item in flight: the engine PERSISTING, the first attempt at its step 1. -/
def beginFlight (item : FlightItem) (p : Prepared) (s : State) : State :=
  { s with
    engine := { s.engine with state := .persisting, inFlight := some { item := item, prepared := p } }
    commit := some
      { intent := buildIntent s.current p (Vector.ofFn fun c => s.channels[c].config), second := false,
        stage := .intent } }

/-- R137: the configuration-in-flight mark set at the take of an APPLIED CONFIGURE_CHANNEL. -/
def markChannelFlight (p : Prepared) (s : State) : State :=
  match p.channelConfig with
  | some (c, _) => setChannel c { s.channels[c] with run := { s.channels[c].run with configInFlight := true } } s
  | none => s

/-- R155: the capture-in-flight mark set on the chosen slot. -/
def markSlotFlight (p : Prepared) (s : State) : State :=
  match p.capture with
  | some (i, _) =>
    { s with checkpoints :=
      { s.checkpoints with slots := s.checkpoints.slots.set i { s.checkpoints.slots[i] with inFlight := true } } }
  | none => s

/-- R78: the head becomes ACTIVE. -/
def activateHead (s : State) : State :=
  match s.queue.items with
  | q :: rest => { s with queue := { s.queue with items := { q with active := true } :: rest } }
  | [] => s

/-- R91, R93: the take of the queue head. -/
def takeHead (q : QueueItem) (s : State) : State :=
  let p := prepareItem s q
  let s := beginFlight (.queued { q with active := true }) p (markSlotFlight p (markChannelFlight p (activateHead s)))
  { s with engine := { s.engine with fairness := 0 } }

/-- R129: a channel hands over its fold. -/
def handOverChannel (c : Fin 8) (s : State) : State :=
  setChannel c { s.channels[c] with run := s.channels[c].run.handOver } s

/-- R91, R92, R93, R129: the take of a FOLD. -/
def takeFold (c : Fin 8) (s : State) : State :=
  let fairness := if s.offeredHead.isSome then s.engine.fairness + 1 else 0
  let t := beginFlight (.fold c) (prepareFold s c) (handOverChannel c s)
  { t with engine := { t.engine with fairness := fairness, lastServed := c } }

/-- R90, R93: the take. -/
def takeChosen (s : State) : Choice → State
  | .head q => takeHead q s
  | .fold c => takeFold c s

/-! ### The power-fail work (R171, R173) -/

/-- R171: the engine STOPPED and the device state POWERDOWN. -/
def enterPowerdown (s : State) : State :=
  { s with device := .powerdown, engine := { s.engine with state := .stopped } }

/-- R139: the covered channels hand over their counts. -/
def handOverAll (channels : List (Fin 8)) (s : State) : State := channels.foldl (fun s c => handOverChannel c s) s

/-- R171: the emergency step: the EMERGENCY_FOLD when a channel has a count and the journal has room (R147),
otherwise the end of the power-fail work. -/
def emergencyStep (s : State) : State :=
  if s.covered.isEmpty || decide (Config.journalCapacity ≤ s.journalCount) then enterPowerdown s
  else beginFlight .emergency (prepareEmergency s) (handOverAll s.covered s)

/-! ### Publication (R107) -/

/-- R33, R42: the records given a value enter the published table. -/
def giveRecords (totals : Vector Totaliser 64) (records : List (Fin 64 × Record)) : Vector Totaliser 64 :=
  records.foldl (fun ts r => ts.set r.1 { ts[r.1] with data := r.2 }) totals

/-- R42: the flags of a record made UNUSED are cleared. -/
def clearFlagsOf (totals : Vector Totaliser 64) (t : Option (Fin 64)) : Vector Totaliser 64 :=
  match t with
  | some t => totals.set t totals[t].unmarked
  | none => totals

/-- R33, R34: the totaliser table's part; LIMIT when a flag goes from clear to set. -/
def publishTotals (p : Prepared) (s : State) : State :=
  raiseIf (anyNewFlag s.totals p.marks) .limit
    { s with totals := clearFlagsOf (markAll (giveRecords s.totals p.records) p.marks) p.clearFlags }

/-- R145: the journal's part: the entry appended, the counter advanced, COMPLETION, and JOURNAL_FULL at 31 or
32 entries. -/
def publishJournal (p : Prepared) (s : State) : State :=
  let entries := s.journal.entries ++ [p.entry]
  raiseIf (decide (Config.heldAt ≤ entries.length)) .journalFull (raise .completion
    { s with journal := { s.journal with counter := s.journal.counter + 1, entries := entries } })

/-- R79: the queue's part: a queued item removed. -/
def publishQueue (item : FlightItem) (s : State) : State :=
  match item with
  | .queued _ => removeItems s.queue.items.tail s
  | _ => s

/-- R53: the constant table's part of a SWITCH. -/
def publishConstants (p : Prepared) (s : State) : State :=
  match p.bank with
  | some b => { s with constants := { s.constants with active := b, epoch := p.control.epoch, lock := none } }
  | none => s

/-- R136: the runtime record after an APPLIED CONFIGURE_CHANNEL. That a disabling keeps the last accepted edge is a
choice (log 33). -/
def ChannelRun.reconfigured (r : ChannelRun) (enabled : Bool) : ChannelRun :=
  match r.state, enabled with
  | .disabled, true => ChannelRun.fresh true
  | .idle, false =>
    { r with state := .disabled, gateOpen := false, unfolded := 0, stray := 0, overrun := false,
             configInFlight := false }
  | _, _ => { r with configInFlight := false }

/-- R136, R107: the configuration's part: the stored configuration and the configuration generation. -/
def publishConfig (p : Prepared) (s : State) : State :=
  let s := { s with generation := p.control.generation }
  match p.channelConfig with
  | some (c, n) => setChannel c { config := n, run := s.channels[c].run.reconfigured n.enabled } s
  | none => s

/-- R131, R132: a channel's part of its FOLD. -/
def publishFold (f : FlightFold) (s : State) : State :=
  let c := f.data.channel
  let ch := s.channels[c]
  if f.placed then
    raiseIf ch.closesApplied .channelClosed (setChannel c (ch.endApplied s.pfTaken) s)
  else
    raise .channelFault (raiseIf (ch.run.losesBack f.data.count) .overrun
      (setChannel c (ch.endRejected f.data) s))

/-- R139: a covered channel's part of the EMERGENCY_FOLD. -/
def publishCovered (f : FlightFold) (s : State) : State :=
  let c := f.data.channel
  let ch := s.channels[c]
  raiseIf (!f.placed && ch.run.losesBack f.data.count) .overrun (setChannel c (ch.endEmergency f) s)

/-- R131, R132, R139: the channels' part. -/
def publishChannels (item : FlightItem) (folds : List FlightFold) (s : State) : State :=
  match item with
  | .queued _ => s
  | .fold _ => folds.foldl (fun s f => publishFold f s) s
  | .emergency => folds.foldl (fun s f => publishCovered f s) s

/-- R157: the checkpoint bank's part. -/
def publishCheckpoint (p : Prepared) (s : State) : State :=
  match p.capture with
  | some (i, c) =>
    { s with checkpoints :=
      { slots := s.checkpoints.slots.set i { content := some c, pinned := false, inFlight := false },
        counter := p.control.checkpoint } }
  | none => s

/-- R107: everything an item changes, at one event; the engine's own part follows (R108). -/
def publishOwners (f : InFlight) (s : State) : State :=
  publishCheckpoint f.prepared
    (publishChannels f.item f.prepared.folds
      (publishConfig f.prepared
        (publishConstants f.prepared
          (publishQueue f.item
            (publishJournal f.prepared
              (publishTotals f.prepared s))))))

/-- R108: the engine leaves PERSISTING: HELD when the journal then holds 31 entries, IDLE otherwise. -/
def engineAfterPublication (s : State) : State :=
  { s with engine :=
    { s.engine with
      inFlight := none
      state := if Config.heldAt ≤ s.journalCount then .held else .idle } }

/-- R108, R114, R171, R173: what follows a publication: POWERDOWN after the emergency fold, the emergency step
after a PFAIL assertion, otherwise HELD or IDLE, and then a deferred SOFT_RESET. -/
def afterPublication (item : FlightItem) (s : State) : State :=
  let s := engineAfterPublication s
  if item = .emergency then enterPowerdown s
  else if s.pfTaken then emergencyStep s
  else if s.engine.deferredReset then softResetEffect s
  else s

/-! ### The commit (R166, R167) -/

/-- R166: a commit write before the retiring one has been read back and matches: the next write begins. -/
def commitAdvance (c : Commit) (s : State) : State :=
  match c.stage with
  | .intent => { s with commit := some { c with stage := .verify } }
  | .verify =>
    { s with
      nv := s.nv.writeIntent true c.intent
      commit := some { c with stage := match c.intent.tables with
        | [] => .retire
        | _ :: _ => .tables c.intent.tables } }
  | .tables [] => { s with commit := some { c with stage := .retire } }
  | .tables (w :: rest) =>
    { s with
      nv := s.nv.writeTable true w
      commit := some { c with stage := match rest with
        | [] => .retire
        | _ :: _ => .tables rest } }
  | .retire => s

/-- R166: the commit completes: the control block copy is in place and the written copies are current. -/
def commitRetired (c : Commit) (s : State) : State :=
  { s with
    nv := s.nv.writeControl true c.intent.controlCopy c.intent.control
    current := s.current.afterCommit c.intent
    commit := none }

/-- R107, R166: commit completion: publication and what follows it. -/
def completeCommit (c : Commit) (f : InFlight) (s : State) : State :=
  afterPublication f.item (publishOwners f (commitRetired c s))

/-- R106, R167: commit failure: the intent's check overwritten, NV_FAULT, HALTED or, after a PFAIL assertion,
POWERDOWN with the engine STOPPED; then a deferred SOFT_RESET takes effect (R114). -/
def commitFailure (s : State) : State :=
  let s := raise .nvFault { s with nv := { s.nv with intent := .bad }, commit := none }
  if s.pfTaken then enterPowerdown s
  else
    let s := { s with device := .halted, engine := { s.engine with state := .halted } }
    if s.engine.deferredReset then softResetEffect s else s

/-- R167: an attempt fails at the write under way: a second attempt from step 1, or the commit failure. -/
def failAttempt (c : Commit) (s : State) : State :=
  let s := { s with nv := s.nv.breakCommit false c }
  if c.second then commitFailure s
  else { s with commit := some { c with second := true, stage := .intent } }

/-! ### PFAIL (R170) -/

/-- R170, R171: the taking of a PFAIL assertion in READY or HALTED. -/
def takePowerFail (s : State) : State :=
  let s := raise .pfail { s with pfTaken := true, engine := { s.engine with deferredReset := false } }
  if s.device = .halted then enterPowerdown s
  else if s.engine.state = .persisting then s
  else emergencyStep s

end Sys2Proof.Machine
end

