-- ==== Sys2Proof/Machine/Lines.lean ====
section
/-! DEFINITION. The lines and the supply: CFGEN_CHANGE, PFAIL_ASSERTION, PFAIL_DEASSERTION (R170, R194), the RESET
line, POWER_LOSS and POWER_ON (R174, R199). -/

namespace Sys2Proof.Machine

/-- CFGEN_CHANGE (R194): the level is taken and shown in LINES; it raises no event. -/
def execCfgenChange (active : Bool) (s : State) : Host.Outcome State Fault Refusal :=
  if s.powered then .next { s with cfgen := active } else .next s

/-- R170: whether a PFAIL assertion is taken now, and not merely shown: in READY or HALTED, and the first. -/
def State.takesPfail (s : State) : Bool := (s.device == .ready || s.device == .halted) && !s.pfTaken

/-- PFAIL_ASSERTION (R170, R194): the level is taken; in READY and HALTED the assertion is taken too. During
STARTING the end of start-up meets the level (R180); in POWERDOWN and after a first one it changes nothing
more. -/
def execPfailAssertion (s : State) : Host.Outcome State Fault Refusal :=
  if !s.powered || s.pfail then .next s
  else if s.takesPfail then .next (takePowerFail { s with pfail := true })
  else .next { s with pfail := true }

/-- R175: a start-up that waits goes on. -/
def resumeStartup (s : State) : State :=
  if s.startup = some .waiting then { s with startup := some (.writing (planStartup s.nv)) } else s

/-- PFAIL_DEASSERTION (R194): LINES changes, and a waiting start-up goes on. -/
def execPfailDeassertion (s : State) : Host.Outcome State Fault Refusal :=
  if s.powered then .next (resumeStartup { s with pfail := false }) else .next s

/-- RESET_LINE_ASSERTION (R174, R199): the commit or start-up under way is cut, the RAM state is cleared, the
device state is STARTING, and the port is closed (R183); start-up begins at the release. -/
def execResetLineAssertion (written : Bool) (s : State) : Host.Outcome State Fault Refusal :=
  if !s.powered || s.resetPin then .next s
  else .next { (cutWrites written s).ramCleared with resetPin := true, port := Port.closed }

/-- RESET_LINE_RELEASE (R194, R199): the levels of CFGEN and PFAIL are taken at once, and start-up begins. -/
def execResetLineRelease (cfgen pfail : Bool) (s : State) : Host.Outcome State Fault Refusal :=
  if !s.powered || !s.resetPin then .next s
  else .next (beginStartup { s with resetPin := false, cfgen := cfgen, pfail := pfail })

/-- POWER_LOSS (R174): the commit or start-up under way is cut, and the port is closed. RAM is not read again
before POWER_ON clears it (log 22). -/
def execPowerLoss (written : Bool) (s : State) : Host.Outcome State Fault Refusal :=
  if s.powered then .next { cutWrites written s with powered := false, port := Port.closed } else .next s

/-- POWER_ON (R174, R194): RAM is cleared, the levels of CFGEN and PFAIL are taken at once, and start-up
begins; a RESET pin still low is taken by a RESET_LINE_ASSERTION of its own (log 22). -/
def execPowerOn (cfgen pfail : Bool) (s : State) : Host.Outcome State Fault Refusal :=
  if s.powered then .next s
  else .next (beginStartup { s with
    powered := true, resetPin := false, cfgen := cfgen, pfail := pfail, port := Port.closed })

end Sys2Proof.Machine
end

