-- ==== Sys2Proof/Machine/Steps.lean ====
section
/-! DEFINITION. The part's own steps: TAKE (R93), the progress and end of a commit (R166, R167) and
STARTUP_WRITE_COMPLETION (R181). A step whose conditions do not hold changes nothing (log 3). -/

namespace Sys2Proof.Machine

/-- The part has its supply and is not held in reset. -/
def State.runs (s : State) : Bool := s.powered && !s.resetPin

/-- TAKE (R89, R90, R93). -/
def execTake (s : State) : Host.Outcome State Fault Refusal :=
  match s.choice with
  | some c => if s.runs && s.mayTake then .next (takeChosen s c) else .next s
  | none => .next s

/-- R166: the commit whose write or read-back is under way. -/
def State.attempt (s : State) : Option Commit := if s.runs then s.commit else none

/-- COMMIT_READ_BACK (R166). -/
def execCommitReadBack (s : State) : Host.Outcome State Fault Refusal :=
  match s.attempt with
  | some c => .next (commitAdvance c s)
  | none => .next s

/-- COMMIT_COMPLETION (R166, R107): the read-back of step 4. -/
def execCommitCompletion (s : State) : Host.Outcome State Fault Refusal :=
  match s.attempt, s.engine.inFlight with
  | some c, some f => if c.stage = .retire then .next (completeCommit c f s) else .next s
  | _, _ => .next s

/-- ATTEMPT_FAILURE (R167): the write under way did not read back as written. -/
def execAttemptFailure (s : State) : Host.Outcome State Fault Refusal :=
  match s.attempt with
  | some c => .next (failAttempt c s)
  | none => .next s

/-- COMMIT_TIMEOUT (R167): the attempt is abandoned at the write under way. -/
def execCommitTimeout (s : State) : Host.Outcome State Fault Refusal :=
  match s.attempt with
  | some c => .next (failAttempt c s)
  | none => .next s

/-- STARTUP_WRITE_COMPLETION (R181). -/
def execStartupWriteCompletion (matched : Bool) (s : State) : Host.Outcome State Fault Refusal :=
  match s.startup with
  | some (.writing j) => if s.runs then .next (startupWriteDone matched j s) else .next s
  | _ => .next s

end Sys2Proof.Machine
end

