-- ==== Sys2Proof/Machine/Dispatch.lean ====
section
/-! DEFINITION. The command's effect on everything but the queue: one arm for each row of the table. -/

namespace Sys2Proof.Machine

def exec (i : Instr) (s : State) : Host.Outcome State Fault Refusal :=
  match i with
  | .transactionStart first => Sys2Proof.Machine.execTransactionStart first s
  | .registerWrite data => Sys2Proof.Machine.execRegisterWrite data s
  | .multiByteReadCapture addr => Sys2Proof.Machine.execMultiByteReadCapture addr s
  | .operand data => Sys2Proof.Machine.execOperand data s
  | .readout => Sys2Proof.Machine.execReadout s
  | .events data => Sys2Proof.Machine.execEvents data s
  | .eventEnable data => Sys2Proof.Machine.execEventEnable data s
  | .openDraft => Sys2Proof.Machine.execOpen s
  | .leg => Sys2Proof.Machine.execLeg s
  | .field => Sys2Proof.Machine.execField s
  | .submit => Sys2Proof.Machine.execSubmit s
  | .discard => Sys2Proof.Machine.execDiscard s
  | .cancel => Sys2Proof.Machine.execCancel s
  | .writePending => Sys2Proof.Machine.execWritePending s
  | .ackStatus => Sys2Proof.Machine.execAckStatus s
  | .pop => Sys2Proof.Machine.execPop s
  | .pin => Sys2Proof.Machine.execPin s
  | .unpin => Sys2Proof.Machine.execUnpin s
  | .softReset => Sys2Proof.Machine.execSoftReset s
  | .gateOpen => Sys2Proof.Machine.execGateOpen s
  | .gateClose => Sys2Proof.Machine.execGateClose s
  | .foldNow => Sys2Proof.Machine.execFoldNow s
  | .clearFault => Sys2Proof.Machine.execClearFault s
  | .ackStray => Sys2Proof.Machine.execAckStray s
  | .loadTotaliser => Sys2Proof.Machine.execLoadTotaliser s
  | .loadConstant => Sys2Proof.Machine.execLoadConstant s
  | .loadChannel => Sys2Proof.Machine.execLoadChannel s
  | .loadQueueEntry => Sys2Proof.Machine.execLoadQueueEntry s
  | .loadJournal => Sys2Proof.Machine.execLoadJournal s
  | .loadCheckpoint => Sys2Proof.Machine.execLoadCheckpoint s
  | .loadDraft => Sys2Proof.Machine.execLoadDraft s
  | .loadStartupReport => Sys2Proof.Machine.execLoadStartupReport s
  | .unknownCommand code => Sys2Proof.Machine.execUnknownCommand code s
  | .edge channel rising time => Sys2Proof.Machine.execEdge channel rising time s
  | .cfgenChange active => Sys2Proof.Machine.execCfgenChange active s
  | .pfailAssertion => Sys2Proof.Machine.execPfailAssertion s
  | .pfailDeassertion => Sys2Proof.Machine.execPfailDeassertion s
  | .resetLineAssertion written => Sys2Proof.Machine.execResetLineAssertion written s
  | .resetLineRelease cfgen pfail => Sys2Proof.Machine.execResetLineRelease cfgen pfail s
  | .powerLoss written => Sys2Proof.Machine.execPowerLoss written s
  | .powerOn cfgen pfail => Sys2Proof.Machine.execPowerOn cfgen pfail s
  | .startupWriteCompletion matched => Sys2Proof.Machine.execStartupWriteCompletion matched s
  | .take => Sys2Proof.Machine.execTake s
  | .commitCompletion => Sys2Proof.Machine.execCommitCompletion s
  | .attemptFailure => Sys2Proof.Machine.execAttemptFailure s
  | .commitTimeout => Sys2Proof.Machine.execCommitTimeout s
  | .transactionEnd => Sys2Proof.Machine.execTransactionEnd s
  | .commitReadBack => Sys2Proof.Machine.execCommitReadBack s

end Sys2Proof.Machine
end

