-- ==== Sys2Proof/Safety.lean ====
section
/-! DEFINITION. The laws of the device as predicates on a state: what a safe run keeps. Each is stated with what
the flight, the commit, start-up and the NV array must hold for the next step to keep it. -/

namespace Sys2Proof.Machine

/-! ### Start-up and the engine (R169, R174) -/

/-- R87, R169: while start-up is under way the device state is STARTING, no item is in flight and no commit is
under way. The other laws are kept by steps from states where this one holds. -/
def PhaseLaw (s : State) : Prop :=
  s.startup.isSome = true → s.device = .starting ∧ s.engine.inFlight = none ∧ s.commit = none

/-! ### Totaliser records (R20, R21) -/

/-- A limit, where present, lies within the capacity (R2). -/
def limitLawful (l : Option Int) : Prop := ∀ v ∈ l, -Config.capacity ≤ v ∧ v ≤ Config.capacity

/-- R20, R21: a legal combination of settings, limits within capacity, the value within its bounds, and the
residue less than one unit and zero unless the rounding is CARRY. -/
def Record.Lawful (r : Record) : Prop :=
  r.legal = true ∧ limitLawful r.upper ∧ limitLawful r.lower ∧
  r.lowerBound ≤ r.value ∧ r.value ≤ r.upperBound ∧ r.residue < subUnits ∧
  (r.rounding ≠ .carry → r.residue = 0)

/-- The record of a home write is lawful. -/
def TableWrite.RecordLawful : TableWrite → Prop
  | .home _ _ _ r => r.Lawful
  | _ => True

/-- The record of a start-up write is lawful. -/
def NvWrite.RecordLawful : NvWrite → Prop
  | .table w => w.RecordLawful
  | _ => True

/-- The home records of the array and of its intent are lawful. -/
def NvArray.RecordsLawful (nv : NvArray) : Prop :=
  (∀ t : Fin 64, (∀ r ∈ nv.home[t].a.content, r.Lawful) ∧ (∀ r ∈ nv.home[t].b.content, r.Lawful)) ∧
  (∀ i, nv.intent = .held i → ∀ w ∈ i.tables, w.RecordLawful)

/-- The writes a commit still has to make. -/
def CommitStage.remaining (i : Intent) : CommitStage → List TableWrite
  | .intent => i.tables
  | .verify => i.tables
  | .tables rest => rest
  | .retire => []

/-- R2, R4: the coefficient of a stated decimal has at most 18 digits. -/
def Dec.Fits (d : Dec) : Prop := d.value.natAbs < 10 ^ 18

/-- R64: the limits a CONFIGURE_TOTALISER carries fit. -/
def Body.LimitsFit : Body → Prop
  | .configureTotaliser _ f => (∀ d, f.upper = some (some d) → d.Fits) ∧ (∀ d, f.lower = some (some d) → d.Fits)
  | _ => True

/-- R20: every published record is lawful, and so is every record on its way to or from the array; every stored
pair of the operand buffer holds two digits (R14), so that every limit on its way fits. -/
def TotalsLaw (s : State) : Prop :=
  (∀ t : Fin 64, s.totals[t].data.Lawful) ∧
  (∀ f ∈ s.engine.inFlight, ∀ r ∈ f.prepared.records, r.2.Lawful) ∧
  s.nv.RecordsLawful ∧
  (∀ c ∈ s.commit, (∀ w ∈ c.intent.tables, w.RecordLawful) ∧
    (∀ w ∈ c.stage.remaining c.intent, w.RecordLawful)) ∧
  (∀ j, s.startup = some (.writing j) → ∀ w ∈ j.settle, w.RecordLawful) ∧
  (∀ i : Fin 9, pairLegal s.operand.pairs[i] = true) ∧
  (∀ d ∈ s.draft, d.body.LimitsFit) ∧ (∀ q ∈ s.queue.items, q.draft.body.LimitsFit)

/-! ### The posting queue (R73, R76) -/

/-- R73, R76: at most 16 items and 48 legs, only the head may be ACTIVE, and the sequence numbers are distinct
and below the next one to give. -/
def QueueLaw (s : State) : Prop :=
  s.queue.items.length ≤ Config.queueCapacity ∧
  s.queue.legsHeld ≤ Config.legPool ∧
  (∀ q ∈ s.queue.items.tail, q.active = false) ∧
  (s.queue.items.map QueueItem.seq).Nodup ∧
  (∀ n ∈ s.queue.nextSeq, ∀ q ∈ s.queue.items, q.seq < n)

/-! ### The journal (R141, R146) -/

/-- R149: a control block's head lies at most 32 entries behind its counter. -/
def ControlBlock.Spans (b : ControlBlock) : Prop := (b.counter - b.head).toNat ≤ Config.journalCapacity

/-- The control block a start-up write carries spans at most 32 entries. -/
def NvWrite.ControlSpans : NvWrite → Prop
  | .control _ b => b.Spans
  | _ => True

/-- The control blocks of the array and of its intent span at most 32 entries. -/
def NvArray.ControlsSpan (nv : NvArray) : Prop :=
  (∀ b ∈ nv.controlA.content, b.Spans) ∧ (∀ b ∈ nv.controlB.content, b.Spans) ∧
  (∀ i, nv.intent = .held i → i.control.Spans)

/-- The most entries the journal may hold while an item is in flight (R146, R147). -/
def FlightItem.room : FlightItem → Nat
  | .emergency => 31
  | _ => 30

/-- R141, R146: at most 32 entries, numbered in succession from the head up to the counter; the item in flight
carries the counter's number and has a position left; the engine is IDLE only at 30 entries or fewer. -/
def JournalLaw (s : State) : Prop :=
  s.journal.entries.length ≤ Config.journalCapacity ∧
  s.journal.counter = s.journal.head + BitVec.ofNat 32 s.journal.entries.length ∧
  (∀ i, ∀ h : i < s.journal.entries.length, s.journal.entries[i].number = s.journal.head + BitVec.ofNat 32 i) ∧
  (s.engine.state = .idle → s.journal.entries.length < Config.heldAt) ∧
  (∀ f ∈ s.engine.inFlight, f.prepared.entry.number = s.journal.counter ∧
    s.journal.entries.length ≤ f.item.room ∧ f.prepared.control.Spans) ∧
  s.nv.ControlsSpan ∧
  (∀ c ∈ s.commit, c.intent.control.Spans) ∧
  (∀ j, s.startup = some (.writing j) →
    j.control.Spans ∧ j.settled.Spans ∧ ∀ w ∈ j.settle, w.ControlSpans)

/-! ### The pulse channels (R117) -/

/-- R117: counts within 65535; the gate as the state has it; a request only with a count, with no fold in flight
and never while FAULTED, DISABLED or IDLE; a fold in flight of 1 to 65535 pulses; an IDLE or DISABLED channel
has no count and no fold in flight. -/
def ChannelRun.Lawful (r : ChannelRun) : Prop :=
  r.unfolded ≤ Config.countCeiling ∧ r.stray ≤ Config.countCeiling ∧
  (r.state = .counting → r.gateOpen = true) ∧
  (r.state = .idle ∨ r.state = .draining ∨ r.state = .disabled → r.gateOpen = false) ∧
  (r.request = true → 0 < r.unfolded ∧ r.inFlight = none ∧ (r.state = .counting ∨ r.state = .draining)) ∧
  (∀ n ∈ r.inFlight, 1 ≤ n ∧ n ≤ Config.countCeiling) ∧
  (r.state = .idle ∨ r.state = .disabled → r.unfolded = 0 ∧ r.inFlight = none)

/-- R116: a fold threshold is 1 to 4096. -/
def ChannelConfig.Lawful (c : ChannelConfig) : Prop := 1 ≤ c.threshold ∧ c.threshold ≤ 4096

/-- R65: a carried threshold is 1 to 4096. -/
def Body.ThresholdLawful : Body → Prop
  | .configureChannel _ f => ∀ n ∈ f.threshold, 1 ≤ n ∧ n ≤ 4096
  | _ => True

/-- The configurations of a channel write are lawful. -/
def TableWrite.ConfigsLawful : TableWrite → Prop
  | .channels _ _ x => ∀ c : Fin 8, x[c].Lawful
  | _ => True

/-- The configurations of a start-up write are lawful. -/
def NvWrite.ConfigsLawful : NvWrite → Prop
  | .table w => w.ConfigsLawful
  | _ => True

/-- The channel configurations of the array and of its intent are lawful. -/
def NvArray.ConfigsLawful (nv : NvArray) : Prop :=
  (∀ x ∈ nv.channels.a.content, ∀ c : Fin 8, x[c].Lawful) ∧
  (∀ x ∈ nv.channels.b.content, ∀ c : Fin 8, x[c].Lawful) ∧
  (∀ i, nv.intent = .held i → ∀ w ∈ i.tables, w.ConfigsLawful)

/-- R117: every channel is lawful, and a FAULTED one has a fold in flight only after a PFAIL assertion (R138);
the folds in flight are those their channels hold in flight; and every
configuration on its way is lawful. -/
def ChannelLaw (s : State) : Prop :=
  (∀ c : Fin 8, s.channels[c].run.Lawful ∧ s.channels[c].config.Lawful) ∧
  (∀ c : Fin 8, s.channels[c].run.state = .faulted → s.channels[c].run.inFlight.isSome = true → s.pfTaken = true) ∧
  (∀ f ∈ s.engine.inFlight,
    (f.prepared.folds.map fun x => x.data.channel).Nodup ∧
    (∀ x ∈ f.prepared.folds, s.channels[x.data.channel].run.inFlight = some x.data.count) ∧
    (∀ x ∈ f.prepared.channelConfig, x.2.Lawful)) ∧
  (∀ d ∈ s.draft, d.body.ThresholdLawful) ∧ (∀ q ∈ s.queue.items, q.draft.body.ThresholdLawful) ∧
  s.nv.ConfigsLawful ∧
  (∀ c ∈ s.commit, (∀ w ∈ c.intent.tables, w.ConfigsLawful) ∧
    (∀ w ∈ c.stage.remaining c.intent, w.ConfigsLawful)) ∧
  (∀ j, s.startup = some (.writing j) → ∀ w ∈ j.settle, w.ConfigsLawful)

/-! ### The flight's part of the constant table and the checkpoint bank (R45, R155, R159) -/

/-- R45, R52: a SWITCH in flight carries the active epoch plus one. -/
def EpochLaw (s : State) : Prop :=
  ∀ f ∈ s.engine.inFlight, f.prepared.bank.isSome = true → f.prepared.control.epoch = s.constants.epoch + 1

/-- R155, R159: a pinned slot is FILLED; the slot that the item in flight will fill is the chosen one, and it is
not pinned. -/
def SlotLaw (s : State) : Prop :=
  (∀ i : Fin 4, s.checkpoints.slots[i].pinned = true → s.checkpoints.slots[i].content.isSome = true) ∧
  ∀ f ∈ s.engine.inFlight, ∀ x ∈ f.prepared.capture,
    s.checkpoints.slots[x.1].inFlight = true ∧ s.checkpoints.slots[x.1].pinned = false

/-! ### Published and persisted (R17, R104, R166) -/

/-- A table write stands in the array. -/
def NvArray.Holds (nv : NvArray) : TableWrite → Prop
  | .home t c w r => nv.home[t].get c = .good w r
  | .ring e => nv.ring[ringPosition e.number] = .good (.number e.number) e
  | .active c w b => nv.active.get c = .good w b
  | .channels c w x => nv.channels.get c = .good w x
  | .slot i w x => nv.slots[i] = .good w x

/-- The control block copy of a name. -/
def NvArray.controlArea (nv : NvArray) : CopyId → Area ControlBlock
  | .a => nv.controlA
  | .b => nv.controlB

/-- R104: what an item in flight will put in force: the completion counter one further, the present boot number,
and the present epoch and checkpoint counter unless it is a SWITCH or fills a slot. -/
def Prepared.Continues (p : Prepared) (s : State) : Prop :=
  p.entry.number = s.journal.counter ∧ p.control.counter = s.journal.counter + 1 ∧ p.control.boot = s.boot ∧
  (p.bank = none → p.control.epoch = s.constants.epoch) ∧
  (p.capture = none → p.control.checkpoint = s.checkpoints.counter)

/-- R166: the commit under way is the commit of the item in flight: its intent is the one built at the take, and
every table write it no longer has to make stands in the array. -/
def CommitMatches (s : State) : Prop :=
  ∀ c ∈ s.commit, ∃ f, s.engine.inFlight = some f ∧
    c.intent = buildIntent s.current f.prepared (Vector.ofFn fun k => s.channels[k].config) ∧
    (f.prepared.records.map Prod.fst).Nodup ∧ f.prepared.Continues s ∧
    (∃ done, c.intent.tables = done ++ c.stage.remaining c.intent ∧
      ((c.stage ≠ .intent ∧ c.stage ≠ .verify) → ∀ w ∈ done, s.nv.Holds w))

/-- R181: start-up tried to format the array and could not, so that the tables hold the values of R176 and the
array need not. -/
def Report.unformatted (r : Report) : Bool := r.nvFault && r.action == .formatted

/-- Several start-up writes, each read back as written. -/
def NvArray.writeAll (nv : NvArray) (ws : List NvWrite) : NvArray := ws.foldl (fun a w => a.write true w) nv

/-- R175 to R177: while start-up is at its writes, the control block in force stands in its copy, which no write but
a format's reaches; and once the writes are made, the settled control block stands in its own. -/
def StartupMatches (s : State) : Prop :=
  ∀ j, s.startup = some (.writing j) →
    (j.settle = [] ∨ j.action ≠ .formatted →
      (s.nv.controlArea j.copy).content = some j.control ∧ ∀ b, NvWrite.control j.copy b ∉ j.settle) ∧
    (j.settle ≠ [] → ((s.nv.writeAll j.settle).controlArea j.settledCopy).content = some j.settled)

/-- R17, R104, R141, R153: outside start-up, and unless a format failed, the array holds what is published: the
current copy of the control block, of every totaliser, of the active bank and of the channel configuration; the ring
position of every entry held but a DAMAGED one; and the area of every FILLED slot but one that a CHECKPOINT in flight
has chosen. The boot number is the one start-up gave unless it could not write it. -/
def PublishedIsPersisted (s : State) : Prop :=
  s.device ≠ .starting → s.report.unformatted = false →
    (∀ t : Fin 64, ∀ c, s.current.home[t] = .copy c → (s.nv.home[t].get c).content = some s.totals[t].data) ∧
    (∀ c, s.current.active = .copy c → (s.nv.active.get c).content = some s.constants.active) ∧
    (∀ c, s.current.channels = .copy c →
      (s.nv.channels.get c).content = some (Vector.ofFn fun k => s.channels[k].config)) ∧
    (∃ b, (s.nv.controlArea s.current.control).content = some b ∧ b.counter = s.journal.counter ∧
      b.epoch = s.constants.epoch ∧ b.generation = s.generation ∧ b.checkpoint = s.checkpoints.counter ∧
      (s.report.nvFault = false → b.boot = s.boot)) ∧
    (∀ e ∈ s.journal.entries, e.source ≠ .damaged → (s.nv.ring[ringPosition e.number]).content = some e) ∧
    (∀ i : Fin 4, ∀ x, s.checkpoints.slots[i].content = some x → s.checkpoints.slots[i].inFlight = false →
      s.nv.slots[i].content = some (some x))

/-! ### The words of the statements: commands and their answers (R188, R189) -/

/-- R188: a write transaction stands at COMMAND, so that a data byte is a command. -/
def State.AtCommand (s : State) : Prop := s.writesAt 0x02#6 = true

/-- R57, R46: OPEN, LEG, FIELD, SUBMIT and WRITE_PENDING pass the device-state test. -/
def State.TakesWork (s : State) : Prop := s.AtCommand ∧ s.device = .ready

/-- R35, R57: ACK_STATUS and DISCARD pass the device-state test. -/
def State.TakesAcks (s : State) : Prop := s.AtCommand ∧ (s.device = .ready ∨ s.device = .halted)

/-- R113, R119, R148, R159: SOFT_RESET, POP, PIN, UNPIN, GATE_OPEN, GATE_CLOSE and ACK_STRAY pass. -/
def State.TakesUpkeep (s : State) : Prop :=
  s.AtCommand ∧ ((s.device = .ready ∧ s.pfTaken = false) ∨ s.device = .halted)

/-- R80, R119: CANCEL, FOLD_NOW and CLEAR_FAULT pass. -/
def State.TakesService (s : State) : Prop := s.AtCommand ∧ s.device = .ready ∧ s.pfTaken = false

/-- R191: a LOAD is taken. -/
def State.TakesLoads (s : State) : Prop := s.AtCommand ∧ s.device ≠ .starting

/-- R188, R189: the command of `code` answered `r`, and nothing else changed. -/
def State.answered (s : State) (code : Byte) (r : ResultCode) : State := { s with command := code, result := r }

/-- R13: the operand series at its end. -/
def State.seriesEnded (s : State) : State := { s with operand := { s.operand with seriesOpen := false } }

/-- R13, R188: a host command's code, and whether it ends the operand series. -/
def hostCode : Instr → Option (Byte × Bool)
  | .openDraft => some (0x01, true)
  | .leg => some (0x02, true)
  | .field => some (0x03, true)
  | .submit => some (0x04, false)
  | .discard => some (0x05, false)
  | .cancel => some (0x06, false)
  | .writePending => some (0x07, true)
  | .ackStatus => some (0x08, false)
  | .pop => some (0x09, false)
  | .pin => some (0x0A, false)
  | .unpin => some (0x0B, false)
  | .softReset => some (0x3F, false)
  | .gateOpen => some (0x10, false)
  | .gateClose => some (0x11, false)
  | .foldNow => some (0x12, false)
  | .clearFault => some (0x13, false)
  | .ackStray => some (0x14, false)
  | .loadTotaliser => some (0x21, false)
  | .loadConstant => some (0x22, false)
  | .loadChannel => some (0x23, false)
  | .loadQueueEntry => some (0x24, false)
  | .loadJournal => some (0x25, false)
  | .loadCheckpoint => some (0x26, false)
  | .loadDraft => some (0x27, false)
  | .loadStartupReport => some (0x28, false)
  | .unknownCommand code => some (code, false)
  | .transactionStart _ | .registerWrite _ | .multiByteReadCapture _ | .operand _ | .readout | .events _
  | .eventEnable _ | .edge _ _ _ | .cfgenChange _ | .pfailAssertion | .pfailDeassertion | .resetLineAssertion _
  | .resetLineRelease _ _ | .powerLoss _ | .powerOn _ _ | .startupWriteCompletion _ | .take | .commitCompletion
  | .attemptFailure | .commitTimeout | .transactionEnd | .commitReadBack => none

/-- R13, R189: a host command answered `r`: its code is shown, the operand series ends where the command ends it
(OPEN, LEG, FIELD and WRITE_PENDING), and nothing else changes. -/
def State.replied (s : State) (code : Byte) (ends : Bool) (r : ResultCode) : State :=
  if ends then (s.answered code r).seriesEnded else s.answered code r

/-- The draft OPEN with this tag and body. -/
def State.withDraft (s : State) (tag : Half) (body : Body) : State :=
  { s with draft := some { tag := tag, body := body } }

/-- A channel's runtime record replaced. -/
def State.withRun (s : State) (c : Fin 8) (r : ChannelRun) : State :=
  { s with channels := s.channels.set c { config := s.channels[c].config, run := r } }

/-- R192: an event's latch set. -/
def State.raised (s : State) (e : Event) : State := { s with events := s.events ||| e.mask }

/-- R120: the channels accept this edge: the part is in READY or HALTED with no PFAIL assertion taken, the channel
is not DISABLED, its edge field selects the edge, and the spacing has passed since its last accepted edge. -/
def State.EdgeAccepted (s : State) (c : Fin 8) (rising : Bool) (time : Nat) : Prop :=
  s.powered = true ∧ (s.device = .ready ∨ s.device = .halted) ∧ s.pfTaken = false ∧
  s.channels[c].run.state ≠ .disabled ∧
  (s.channels[c].config.edge = .both ∨ (s.channels[c].config.edge = .rising ∧ rising = true) ∨
    (s.channels[c].config.edge = .falling ∧ rising = false)) ∧
  (s.channels[c].config.spacing = 0 ∨ s.channels[c].run.lastEdge = none ∨
    ∃ last, s.channels[c].run.lastEdge = some last ∧ last + 10 * s.channels[c].config.spacing ≤ time)

/-- R190: the readout buffer filled by an accepted LOAD. -/
def State.loaded (s : State) (code : Byte) (kind : Byte) (bytes : List Byte) : State :=
  { s.answered code .ok with readout := { bytes := bytes, kind := kind, pointer := 0 } }

/-- Several commands one after another; none when one of them does not go on. -/
def afterAll : List Instr → State → Option State
  | [], s => some s
  | c :: rest, s =>
    match exec c s with
    | .next t => afterAll rest t
    | _ => none

/-! ### The words of the statements: the arguments of LEG (R60, R61) -/

/-- R60: the argument registers and the operand buffer describe this leg. -/
def Leg.DescribedBy (l : Leg) (args : Vector Byte 12) (o : OperandBuffer) : Prop :=
  args[0].toNat = l.target.val ∧ args[1] = l.op.code ∧
  (match l.source with
   | .immediate d =>
     args[2] = 0#8 ∧ l.op ≠ .clear ∧ (args[4] = 0#8 ∨ args[4] = 1#8) ∧ args[5].toNat ≤ 8 ∧ o.accepted = true ∧
       d = Dec.ofSign (args[4] == 1#8) o.coefficient args[5].toNat
   | .constant k => args[2] = 1#8 ∧ l.op ≠ .clear ∧ args[3].toNat = k.val
   | .totaliser t => args[2] = 2#8 ∧ l.op ≠ .clear ∧ args[3].toNat = t.val
   | .none => args[2] = 3#8 ∧ l.op = .clear ∧ l.multiplier = none) ∧
  (match l.multiplier with
   | some m => args[6].toNat = m.val
   | none => args[6] = 255#8) ∧
  (match l.guard with
   | some g => args[7].toNat = g.totaliser.val ∧ args[8] = g.relation.code ∧ args[9].toNat = g.threshold.val
   | none => args[7] = 255#8)

/-- R61: the ten conditions under which an argument set describes no leg. -/
def LegMisdescribed (args : Vector Byte 12) : Prop :=
  63 < args[0].toNat ∨
  (3 < args[1].toNat ∨ 3 < args[2].toNat) ∨
  (args[1] = 3#8 ∧ args[2] ≠ 3#8) ∨
  (args[1].toNat < 3 ∧ args[2] = 3#8) ∨
  ((args[2] = 1#8 ∧ 31 < args[3].toNat) ∨ (args[2] = 2#8 ∧ 63 < args[3].toNat)) ∨
  (args[2] = 0#8 ∧ (1 < args[4].toNat ∨ 8 < args[5].toNat)) ∨
  (31 < args[6].toNat ∧ args[6] ≠ 255#8) ∨
  (args[1] = 3#8 ∧ args[6] ≠ 255#8) ∨
  (63 < args[7].toNat ∧ args[7] ≠ 255#8) ∨
  (args[7].toNat ≤ 63 ∧ (5 < args[8].toNat ∨ 31 < args[9].toNat))

/-! ### The words of the statements: start-up (R174, R175) -/

/-- R174, R175: the part with its RAM state cleared, setting out on start-up: waiting while PFAIL is asserted, or
at the first of the writes that the array calls for. -/
def State.restarted (s : State) (port : Port) : State :=
  { State.cleared s.nv port s.cfgen s.pfail s.resetPin s.powered s.pending s.freeCount with
    startup := some (if s.pfail = true then .waiting else .writing (planStartup s.nv)) }

/-! ### The words of the statements: numbers (R1) and the engine (R89 to R93, R166) -/

/-- R1: the number a decimal stands for. -/
def Dec.number (x : Dec) : ℚ := (x.value : ℚ) / 10 ^ x.scale

/-- R89: the engine is free to take: IDLE in READY, with no PFAIL assertion taken and no SOFT_RESET deferred. -/
def State.EngineFree (s : State) : Prop :=
  s.powered = true ∧ s.resetPin = false ∧ s.engine.state = .idle ∧ s.device = .ready ∧ s.pfTaken = false ∧
  s.engine.deferredReset = false

/-- R78, R89: the queue offers this head. -/
def State.Offers (s : State) (q : QueueItem) : Prop := s.queue.items.head? = some q ∧ q.active = false

/-- R92: the channel is the first with a pending request in the order after the one served last. -/
def State.FirstInOrder (s : State) (c : Fin 8) : Prop :=
  s.channels[c].run.request = true ∧
  ∃ k < 8, c.val = (s.engine.lastServed.val + 1 + k) % 8 ∧
    ∀ j < k, ∀ d : Fin 8, d.val = (s.engine.lastServed.val + 1 + j) % 8 → s.channels[d].run.request = false

/-- R104, R166: the first attempt at the commit of what a take prepared. -/
def State.firstAttempt (s : State) (p : Prepared) : Commit :=
  { intent := buildIntent s.current p (Vector.ofFn fun c => s.channels[c].config), second := false,
    stage := .intent }

/-- R129, R139: a runtime record that has handed over its count. -/
def ChannelRun.handedOver (r : ChannelRun) : ChannelRun :=
  { r with unfolded := 0, request := false, inFlight := some r.unfolded, overrun := false }

/-- R132, R139: a runtime record given back the pulses of a fold, saturating at 65535. -/
def ChannelRun.returned (r : ChannelRun) (d : FoldRecord) : ChannelRun :=
  { r with
    unfolded := min 65535 (r.unfolded + d.count)
    overrun := r.overrun || d.overrun || decide (65535 < r.unfolded + d.count)
    inFlight := none }

/-- R166: the commit of the item in flight is at the read-back of its step 4. -/
def State.AtRetire (s : State) (c : Commit) (f : InFlight) : Prop :=
  s.powered = true ∧ s.resetPin = false ∧ s.commit = some c ∧ c.stage = .retire ∧ s.engine.inFlight = some f

/-- R33, R34, R42: the totaliser table after the publication of what was prepared. -/
def TotalsGiven (before after : Vector Totaliser 64) (p : Prepared) : Prop :=
  ∀ i : Fin 64,
    (∀ r, (i, r) ∈ p.records → after[i].data = r) ∧
    ((∀ x ∈ p.records, x.1 ≠ i) → after[i].data = before[i].data) ∧
    (p.clearFlags = some i → ∀ g : StatusFlag, after[i].flag g = false) ∧
    (p.clearFlags ≠ some i → ∀ g : StatusFlag,
      (after[i].flag g = true ↔ before[i].flag g = true ∨ (i, g) ∈ p.marks))

/-- R34: some flag that the publication marks was clear. -/
def FlagRises (before : Vector Totaliser 64) (p : Prepared) : Prop :=
  ∃ m ∈ p.marks, before[m.1].flag m.2 = false

/-- R102, R103: the last effect on a target that is not SKIPPED. -/
def lastEffect (effects : List Effect) (t : Fin 64) : Option Effect :=
  (effects.filter fun e => e.target == t && e.mark != .skipped).getLast?

/-- R39: a limit of a resulting record. -/
def LimitResults (carried : Option (Option Dec)) (present : Option Int) (oldScale newScale : Nat)
    (result : Option Int) : Prop :=
  match carried, present with
  | some none, _ => result = none
  | some (some d), _ => result.isSome = true ∧ d.alignExact newScale = result
  | none, none => result = none
  | none, some v => result.isSome = true ∧ ({ value := v, scale := oldScale } : Dec).alignExact newScale = result

/-- R39: `n` is the resulting record of the fields on a present record. -/
def TotFields.Results (f : TotFields) (r n : Record) : Prop :=
  n.state = .active ∧ n.kind = f.kind.getD r.kind ∧ n.scale = f.scale.getD r.scale ∧
  n.rounding = f.rounding.getD r.rounding ∧ n.policy = f.policy.getD r.policy ∧
  LimitResults f.upper r.upper r.scale n.scale n.upper ∧ LimitResults f.lower r.lower r.scale n.scale n.lower ∧
  (f.initial.getD { value := r.value, scale := r.scale }).alignExact n.scale = some n.value ∧
  n.residue = (if f.initial = none ∧ n.rounding = .carry ∧ n.scale = r.scale then r.residue else 0)

/-- R40: none of the grounds for BAD_CONFIG holds of a resulting record. -/
def TotFields.Suits (f : TotFields) (r n : Record) : Prop :=
  ¬(n.rounding = .carry ∧ n.kind = .balance) ∧ ¬(n.policy = .wrap ∧ n.kind = .balance) ∧
  ¬(n.policy = .wrap ∧ n.upper ≠ none) ∧ (n.lower ≠ none → n.kind = .balance) ∧
  (∀ u l, n.upper = some u → n.lower = some l → l ≤ u) ∧
  (∀ d, f.initial = some d → d.value < 0 → n.kind = .balance) ∧
  (n.scale ≠ r.scale → r.state = .active → f.initial ≠ none) ∧
  (r.state = .active ∨ f.initial ≠ none ∨ f.active = some true)

/-- R29, R41: the value lies within the bounds. -/
def Record.Within (r : Record) : Prop :=
  r.lower.getD (if r.kind = .balance then -999999999999999999 else 0) ≤ r.value ∧
  r.value ≤ r.upper.getD 999999999999999999

/-! ### The words of the statements: postings and folds (R96, R130, R172) -/

/-- R96: `w i` are the working copies that leg `i` meets: the published records, each earlier leg that passed having
left its target the value and residue of its effect unless that is SKIPPED. -/
def State.LegsWork (s : State) (mode : GuardMode) (legs : List Leg) (w : Nat → Working) : Prop :=
  (∀ t : Fin 64, (w 0)[t] = s.totals[t].data) ∧
  ∀ i l x, legs[i]? = some l → evalLeg s.constants.active mode (w i) l = .ok x → ∀ t : Fin 64,
    (w (i + 1))[t] =
      if x.effect.target = t ∧ x.effect.mark ≠ .skipped then
        { (w i)[t] with value := x.effect.value, residue := x.effect.residue }
      else (w i)[t]

/-- R130: the exact delta of a fold of `n` pulses. -/
def ChannelConfig.foldDelta (g : ChannelConfig) (n : Nat) : Dec :=
  { value := if g.direction = .add then n * g.quantum.value else -(n * g.quantum.value), scale := g.quantum.scale }

/-- R130: what a fold of `n` pulses yields on a record. -/
def foldYields (r : Record) (g : ChannelConfig) (n : Nat) : Except Reason Applied :=
  if r.state = .active then applyChange r (.delta (g.foldDelta n)) else .error .notActive

/-- R34: a status flag that an applied change marks on its target. -/
def Applied.MarksOn (a : Applied) (t : Fin 64) (m : Fin 64 × StatusFlag) : Prop :=
  (m = (t, .atUpper) ∧ (a.mark = .wrapped ∨ a.clamp = .upper)) ∨
  (m = (t, .atLower) ∧ a.mark ≠ .wrapped ∧ a.clamp = .lower)

/-- R34: the status flag that a refused change marks on its target. -/
def Reason.MarksOn (reason : Reason) (t : Fin 64) (m : Fin 64 × StatusFlag) : Prop :=
  m = (t, .refused) ∧ (reason = .kind ∨ reason = .direction ∨ reason = .limit)

/-- R139, R172: `w i` are the working copies that the `i`-th covered channel meets. -/
def State.FoldsWork (s : State) (covered : List (Fin 8)) (w : Nat → Working) : Prop :=
  (∀ t : Fin 64, (w 0)[t] = s.totals[t].data) ∧
  ∀ i c, covered[i]? = some c → ∀ t : Fin 64,
    (∀ a, foldYields (w i)[s.channels[c].config.target] s.channels[c].config s.channels[c].run.unfolded = .ok a →
      (w (i + 1))[t] =
        if t = s.channels[c].config.target then { (w i)[t] with value := a.value, residue := a.residue }
        else (w i)[t]) ∧
    (∀ reason,
      foldYields (w i)[s.channels[c].config.target] s.channels[c].config s.channels[c].run.unfolded = .error reason →
      (w (i + 1))[t] = (w i)[t])

/-- R93, R139, R171: the take of the EMERGENCY_FOLD: every channel with a count hands it over, and the first attempt
at the commit begins. -/
def State.emergencyTaken (s : State) : State :=
  { s with
    channels := Vector.ofFn fun c =>
      if 0 < s.channels[c].run.unfolded then { s.channels[c] with run := s.channels[c].run.handedOver }
      else s.channels[c]
    engine := { s.engine with
      state := .persisting, inFlight := some { item := .emergency, prepared := prepareEmergency s } }
    commit := some (s.firstAttempt (prepareEmergency s)) }

/-- R171: the emergency step: the EMERGENCY_FOLD is taken when some channel has a count and the journal holds 31
entries or fewer; otherwise the engine stops and the device state is POWERDOWN. -/
def State.emergencyStepped (s : State) : State :=
  if (∃ c : Fin 8, 0 < s.channels[c].run.unfolded) ∧ s.journal.entries.length ≤ 31 then s.emergencyTaken
  else { s with device := .powerdown, engine := { s.engine with state := .stopped } }

/-! ### The words of the statements: the layouts of records (R195 to R198) -/

/-- R195: the number of `n` bytes from `p` on, least significant byte first. -/
def numberAt (b : List Byte) (p n : Nat) : Nat := ((b.drop p).take n).foldr (fun x acc => x.toNat + 256 * acc) 0

/-- R195: `n` bytes from `p` on hold the digits of a number, two to a byte, least significant pair first. -/
def DigitsAt (b : List Byte) (p n x : Nat) : Prop :=
  pairsValue ((b.drop p).take n) = x ∧
  ∀ y ∈ (b.drop p).take n, y.toNat / 16 ≤ 9 ∧ y.toNat % 16 ≤ 9

/-- R195: byte 0 of a present V or K field: the sign, which is + for zero, and the scale. -/
def SignAt (b : List Byte) (p : Nat) (v : Int) (scale : Nat) : Prop :=
  numberAt b p 1 = (if v < 0 then 128 else 0) + scale

/-- R195: a value (V) of at most 18 digits. -/
def ValueAt (b : List Byte) (p : Nat) (v : Int) (scale : Nat) : Prop :=
  v.natAbs < 10 ^ 18 → scale < 16 → SignAt b p v scale ∧ DigitsAt b (p + 1) 9 v.natAbs

/-- R195: an absent V field or an INVALID K field of `n` bytes: bit 6 alone. -/
def AbsentAt (b : List Byte) (p n : Nat) : Prop := numberAt b p n = 64

/-- R195: an optional value (V). -/
def LimitAt (b : List Byte) (p : Nat) (limit : Option Int) (scale : Nat) : Prop :=
  match limit with
  | some v => ValueAt b p v scale
  | none => AbsentAt b p 10

/-- R195: a constant (K) of at most 12 digits, or INVALID. -/
def ConstantAt (b : List Byte) (p : Nat) (entry : Option Dec) : Prop :=
  match entry with
  | some d => d.value.natAbs < 10 ^ 12 → d.scale < 16 →
      SignAt b p d.value d.scale ∧ DigitsAt b (p + 1) 6 d.value.natAbs
  | none => AbsentAt b p 7

/-- R195: a residue (Q). -/
def ResidueAt (b : List Byte) (p r : Nat) : Prop := r < 10 ^ 8 → DigitsAt b p 4 r

/-- R195: a set: bit n of byte k stands for totaliser 8k + n. -/
def SetAt (b : List Byte) (p : Nat) (member : Fin 64 → Prop) : Prop :=
  ∀ t : Fin 64, (b.getD (p + t.val / 8) 0#8).getLsbD (t.val % 8) = true ↔ member t

/-- R197: a leg of 18 bytes (log 28). -/
def LegAt (b : List Byte) (p : Nat) (l : Leg) : Prop :=
  numberAt b p 1 = l.target.val ∧ numberAt b (p + 1) 1 = l.op.code.toNat ∧
  (match l.source with
   | .immediate d => numberAt b (p + 2) 1 = 0 ∧ numberAt b (p + 3) 1 = 0 ∧ ValueAt b (p + 8) d.value d.scale
   | .constant k => numberAt b (p + 2) 1 = 1 ∧ numberAt b (p + 3) 1 = k.val ∧ numberAt b (p + 8) 10 = 0
   | .totaliser t => numberAt b (p + 2) 1 = 2 ∧ numberAt b (p + 3) 1 = t.val ∧ numberAt b (p + 8) 10 = 0
   | .none => numberAt b (p + 2) 1 = 3 ∧ numberAt b (p + 3) 1 = 0 ∧ numberAt b (p + 8) 10 = 0) ∧
  (match l.multiplier with
   | some m => numberAt b (p + 4) 1 = m.val
   | none => numberAt b (p + 4) 1 = 255) ∧
  (match l.guard with
   | some g => numberAt b (p + 5) 1 = g.totaliser.val ∧ numberAt b (p + 6) 1 = g.relation.code.toNat ∧
       numberAt b (p + 7) 1 = g.threshold.val
   | none => numberAt b (p + 5) 1 = 255 ∧ numberAt b (p + 6) 2 = 0)

/-- R197: an UPPER or LOWER field of a draft: not carried, carried as absent, or carried with a value. -/
def LimitFieldAt (b : List Byte) (p : Nat) (f : Option (Option Dec)) : Prop :=
  match f with
  | none => numberAt b p 10 = 0
  | some none => AbsentAt b p 10
  | some (some d) => ValueAt b p d.value d.scale

/-- R197: an effect of 16 bytes. -/
def EffectAt (b : List Byte) (p : Nat) (e : Effect) : Prop :=
  numberAt b p 1 = e.target.val ∧ numberAt b (p + 1) 1 = e.mark.code.toNat ∧ ValueAt b (p + 2) e.value e.scale ∧
  ResidueAt b (p + 12) e.residue

/-- R198: a capture entry of 16 bytes. -/
def CaptureEntryAt (b : List Byte) (p : Nat) (e : CaptureEntry) : Prop :=
  numberAt b p 1 = e.index.val ∧ numberAt b (p + 1) 1 = e.state.code.toNat ∧ ValueAt b (p + 2) e.value e.scale ∧
  ResidueAt b (p + 12) e.residue

/-- The number of a coded field; 0 where it is absent (R195). -/
def codeNumber {α : Type} (code : α → Byte) (x : Option α) : Nat := (x.map fun a => (code a).toNat).getD 0

/-! ### Monotonic totalisers (R19) -/

/-- R19: what the item in flight will give a MONOTONIC record is no less than what it holds, but for a wrap or a
CONFIGURE_TOTALISER. -/
def RisesLaw (s : State) : Prop :=
  ∀ f ∈ s.engine.inFlight, f.prepared.entry.source ≠ .configureTotaliser →
    ∀ x ∈ f.prepared.records, s.totals[x.1].data.kind = .monotonic →
      x.2.kind = .monotonic ∧
      (s.totals[x.1].data.value ≤ x.2.value ∨
        ∃ e ∈ f.prepared.entry.effects, e.target = x.1 ∧ e.mark = .wrapped)

/-- R33, R107: what a publication alone may change: values and settings of totalisers, the active bank and the
epoch, the generation, the stored channel configurations, and the captures of the slots. -/
def SamePublished (s t : State) : Prop :=
  (∀ i : Fin 64, t.totals[i].data = s.totals[i].data) ∧
  t.constants.active = s.constants.active ∧ t.constants.epoch = s.constants.epoch ∧ t.generation = s.generation ∧
  t.journal.counter = s.journal.counter ∧
  (∀ c : Fin 8, t.channels[c].config = s.channels[c].config) ∧
  (∀ i : Fin 4, t.checkpoints.slots[i].content = s.checkpoints.slots[i].content)

/-! ### The words of the statements: the array (R164 to R168) -/

/-- R164: the area of a table write fails its check. -/
def NvArray.FailsAt (nv : NvArray) : TableWrite → Prop
  | .home t c _ _ => nv.home[t].get c = .bad
  | .ring e => nv.ring[ringPosition e.number] = .bad
  | .active c _ _ => nv.active.get c = .bad
  | .channels c _ _ => nv.channels.get c = .bad
  | .slot i _ _ => nv.slots[i] = .bad

/-- R164, R177: the area of a start-up write fails its check. -/
def NvArray.FailsAtWrite (nv : NvArray) : NvWrite → Prop
  | .table w => nv.FailsAt w
  | .control c _ => nv.controlArea c = .bad
  | .noIntent => nv.intent = .bad
  | .spoilHome t c => nv.home[t].get c = .bad
  | .spoilActive c => nv.active.get c = .bad
  | .spoilChannels c => nv.channels.get c = .bad
  | .spoilSlot i => nv.slots[i] = .bad

/-- R166: the array with the intent in place and these tables written. -/
def NvArray.withTables (nv : NvArray) (i : Intent) (done : List TableWrite) : NvArray :=
  done.foldl (fun a w => a.writeTable true w) { nv with intent := .held i }

/-- R166: the array when a commit has completed. -/
def NvArray.committed (nv : NvArray) (i : Intent) : NvArray :=
  (nv.withTables i i.tables).writeControl true i.controlCopy i.control

/-- R166: a commit with this intent may begin on the array: start-up would choose the control block whose counter
is the intent's number, in the copy that the intent does not write, and that copy carries its own counter. -/
def NvArray.Awaits (nv : NvArray) (i : Intent) : Prop :=
  ∃ b c, nv.chooseControl = some (b, c) ∧ b.counter = i.number ∧ i.controlCopy = c.other ∧
    i.control.counter = i.number + 1

end Sys2Proof.Machine
end

