-- ==== Sys2Proof/Certificates/Slice0/Obligations.lean ====
section
/-! DEFINITION. The statements about the DT64, from the numbered rules of spec/. A statement about a command names
the whole next state as an update of the state before it, so that every field it does not name is unchanged.
The words it uses (which states take a command, what an answer changes) stand at the end of Safety.lean. -/

section
open Sys2Proof Sys2Proof.Machine

/-! ### The step -/

/-- A step runs the command at the front of the queue on the queue's rest; with no command waiting the block
idles, which is the model's choice (log 2). -/
def Obligations.StepRunsFrontCommand : Prop :=
  (∀ (c : Instr) (rest : List Instr) (s : State),
    s.pending = c :: rest → step s = exec c { s with pending := rest }) ∧
  (∀ s : State, s.pending = [] → step s = .next s)

/-! ### The serial port (Chapter 11) -/

/-- R183 to R185, R188: nCS falling opens a transaction, SDO carrying 0x00 during the first byte; the first byte then
makes it a read or a write at its address (a read at once captures a wide register whose lowest byte it names: log 19;
the bytes SDO carries in a write are free: log 9), and nCS rising ends it. That a fall of nCS while it is low, a first
byte out of place, and either without supply or under RESET is no event is the model's choice (log 3). A write data
byte reaches an argument register, or at a read-only or unassigned address nothing, or at COMMAND takes the command of
its code, or at OPERAND, EVENTS and EVENT_ENABLE is their own row's event (log 20). A read data byte moves the address
on by one, modulo 64, but at COMMAND and OPERAND, captures the wide register whose lowest byte it comes to, and leaves
SDO with the next byte; every byte of a captured register read later in the transaction is the byte at the capture. -/
def Obligations.TransactionBytes : Prop :=
  (∀ s : State, s.powered = true → s.resetPin = false →
    (s.port.mode = .none → exec (.transactionStart none) s = .next
      { s with port := { s.port with mode := .first, captured := [], sdo := .shifting 0x00#8 } }) ∧
    (s.port.mode ≠ .none → exec (.transactionStart none) s = .next s) ∧
    (∀ first : Byte, s.port.mode = .first →
      (first.getLsbD 7 = true →
        exec (.transactionStart (some first)) s = .next
          { s with port :=
            { mode := .read, address := first.setWidth 6, captured := s.capture (first.setWidth 6),
              sdo := .shifting (s.register (first.setWidth 6)) } }) ∧
      (first.getLsbD 7 = false →
        exec (.transactionStart (some first)) s = .next
          { s with
            port := { mode := .write, address := first.setWidth 6, captured := [], sdo := .unstated s.freeCount }
            freeCount := s.freeCount + 1 })) ∧
    (∀ first : Byte, s.port.mode ≠ .first → exec (.transactionStart (some first)) s = .next s)) ∧
  (∀ (first : Option Byte) (s : State), s.powered = false ∨ s.resetPin = true →
    exec (.transactionStart first) s = .next s) ∧
  (∀ s : State, exec .transactionEnd s = .next
    { s with port := { s.port with mode := .none, captured := [], sdo := .highZ } }) ∧
  (∀ (data : Byte) (i : Fin 12) (s : State), s.writesAt (BitVec.ofNat 6 (4 + i.val)) = true →
    exec (.registerWrite data) s = .next
      { s with
        args := s.args.set i data
        port := { s.port with address := BitVec.ofNat 6 (5 + i.val) } }) ∧
  (∀ (data : Byte) (a : Address) (s : State), s.writesAt a = true →
    ((a.toNat < 4 ∧ a ≠ 2#6) ∨ (0x11 ≤ a.toNat ∧ a.toNat < 0x1A) ∨ 0x1E ≤ a.toNat →
      exec (.registerWrite data) s = .next
        { s with port := { s.port with address := if a = 0x11#6 then a else a + 1#6 } }) ∧
    (a = 0x10#6 → exec (.registerWrite data) s = exec (.operand data) s) ∧
    (a = 0x1A#6 ∨ a = 0x1B#6 → exec (.registerWrite data) s = exec (.events data) s) ∧
    (a = 0x1C#6 ∨ a = 0x1D#6 → exec (.registerWrite data) s = exec (.eventEnable data) s)) ∧
  (∀ (c : Instr) (code : Byte) (ends : Bool) (s : State), c.wellFormed = true → hostCode c = some (code, ends) →
    s.AtCommand → exec (.registerWrite code) s = exec c s) ∧
  (∀ (a : Address) (s : State), s.powered = true → s.resetPin = false → s.port.mode = .read →
    (s.port.address = 0x11#6 → a = 0x11#6 → exec (.multiByteReadCapture a) s = exec .readout s) ∧
    (s.port.address ≠ 0x11#6 →
      a = (if s.port.address = 0x02#6 ∨ s.port.address = 0x10#6 then s.port.address else s.port.address + 1#6) →
      ∃ t, exec (.multiByteReadCapture a) s = .next t ∧
        t = { s with port :=
          { mode := .read, address := a, captured := s.capture a ++ s.port.captured,
            sdo := .shifting (t.readAt a) } } ∧
        (∀ x ∈ wideSpan a, ∀ (later : List (Address × Byte)) (u : State),
          u.port.captured = later ++ t.port.captured → (∀ y ∈ later, y.1 ≠ x) → u.readAt x = s.register x))) ∧
  (∀ a x : Address, x ∈ wideSpan a ↔
    (a ∈ [0x18#6, 0x1A#6, 0x1C#6] ∧ (x = a ∨ x = a + 1#6)) ∨ (a = 0x20#6 ∧ 0x20 ≤ x.toNat ∧ x.toNat ≤ 0x23))

/-- R13 to R15: a pair delivered to OPERAND, in an open series with room, in a full one, and as the first of a
series; while the device state is STARTING or POWERDOWN the buffer is not written. -/
def Obligations.OperandPairTaken : Prop :=
  ∀ (data : Byte) (s : State), s.writesAt 0x10#6 = true →
    (s.device = .ready ∨ s.device = .halted →
      (∀ h : s.operand.count < 9, s.operand.seriesOpen = true →
        data.toNat / 16 ≤ 9 ∧ data.toNat % 16 ≤ 9 →
        exec (.operand data) s = .next
          { s with operand := { s.operand with
              pairs := s.operand.pairs.set s.operand.count data, count := s.operand.count + 1 } }) ∧
      (∀ h : s.operand.count < 9, s.operand.seriesOpen = true →
        9 < data.toNat / 16 ∨ 9 < data.toNat % 16 →
        exec (.operand data) s = .next
          { s with operand := { s.operand with
              pairs := s.operand.pairs.set s.operand.count 0#8, count := s.operand.count + 1, badDigit := true } }) ∧
      (s.operand.count = 9 → s.operand.seriesOpen = true →
        exec (.operand data) s = .next { s with operand := { s.operand with overrun := true } }) ∧
      (s.operand.seriesOpen = false → data.toNat / 16 ≤ 9 ∧ data.toNat % 16 ≤ 9 →
        exec (.operand data) s = .next
          { s with operand :=
            { pairs := (Vector.replicate 9 0#8).set 0 data, count := 1, badDigit := false, overrun := false,
              seriesOpen := true } }) ∧
      (s.operand.seriesOpen = false → 9 < data.toNat / 16 ∨ 9 < data.toNat % 16 →
        exec (.operand data) s = .next
          { s with operand :=
            { pairs := Vector.replicate 9 0#8, count := 1, badDigit := true, overrun := false,
              seriesOpen := true } })) ∧
    (s.device = .starting ∨ s.device = .powerdown → exec (.operand data) s = .next s)

/-- R14, R16: one to nine legal pairs delivered from the end of a series give the number whose digits they are,
least significant pair first, and a buffer that is accepted as an immediate operand. -/
def Obligations.OperandDigits : Prop :=
  ∀ (ps : List Byte) (s : State), s.writesAt 0x10#6 = true → s.device = .ready → s.operand.seriesOpen = false →
    1 ≤ ps.length → ps.length ≤ 9 → (∀ p ∈ ps, p.toNat / 16 ≤ 9 ∧ p.toNat % 16 ≤ 9) →
    ∃ t, afterAll (ps.map Instr.operand) s = some t ∧
      t.operand.count = ps.length ∧ t.operand.accepted = true ∧
      t.operand.coefficient =
        ((List.range ps.length).map fun i =>
          ((ps.getD i 0#8).toNat / 16 * 10 + (ps.getD i 0#8).toNat % 16) * 100 ^ i).sum

/-- R190: a read of READOUT moves the pointer on by one, from the end of the record round to its second byte, and
changes no empty buffer; from a fresh LOAD the bytes read are the record's, around and around, and READOUT_LEFT
counts them down. -/
def Obligations.ReadoutGoesRound : Prop :=
  (∀ s : State, s.readsAt 0x11#6 = true →
    (s.readout.bytes = [] →
      exec .readout s = .next { s with port := { s.port with sdo := .shifting 0#8 } }) ∧
    (s.readout.pointer < s.readout.bytes.length →
      ∃ t, exec .readout s = .next t ∧ t =
        { s with
          readout := { s.readout with pointer := s.readout.pointer + 1 }
          port := { s.port with sdo := .shifting (t.register 0x11#6) } }) ∧
    (s.readout.bytes ≠ [] → s.readout.pointer = s.readout.bytes.length →
      ∃ t, exec .readout s = .next t ∧ t =
        { s with
          readout := { s.readout with pointer := 1 }
          port := { s.port with sdo := .shifting (t.register 0x11#6) } })) ∧
  (∀ (k : Nat) (s : State), s.readsAt 0x11#6 = true → s.readout.bytes ≠ [] → s.readout.pointer = 0 →
    ∃ t, afterAll (List.replicate k .readout) s = some t ∧
      t.register 0x11#6 = s.readout.bytes.getD (k % s.readout.bytes.length) 0#8 ∧
      t.readout.left =
        if k = 0 then s.readout.bytes.length else s.readout.bytes.length - 1 - (k - 1) % s.readout.bytes.length)

/-- R186, R187, R189, R192 to R194: what each register of the window shows, 0x00 at OPERAND and at unassigned addresses.
A byte written to EVENTS clears exactly the latches it writes 1, and a byte written to EVENT_ENABLE sets each enable of
its byte as written; the other byte's bits stay, the address moves on, and during STARTING nothing but the address
changes (R185). INT is driven low exactly while some event's latch and enable are both set, the part has its supply,
and RESET is not asserted. -/
def Obligations.EventsAndInterrupt : Prop :=
  (∀ s : State,
    s.register 0x00#6 = 0x4E#8 ∧
    (s.register 0x01#6).toNat =
      s.device.code.toNat + 4 * s.engine.state.code.toNat + 32 * s.draft.isSome.toNat + 64 * s.pfTaken.toNat ∧
    s.register 0x02#6 = s.command ∧ s.register 0x03#6 = s.result.code ∧
    (∀ i : Fin 12, s.register (BitVec.ofNat 6 (4 + i.val)) = s.args[i]) ∧
    s.register 0x10#6 = 0x00#8 ∧
    (s.readout.bytes.length < 256 →
      (s.register 0x12#6).toNat = s.readout.bytes.length - s.readout.pointer) ∧
    s.register 0x13#6 = s.readout.kind ∧
    (s.register 0x14#6).toNat = 16 - s.queue.items.length ∧ (s.register 0x15#6).toNat = 48 - s.queue.legsHeld ∧
    (s.journal.entries.length < 256 → (s.register 0x16#6).toNat = s.journal.entries.length) ∧
    (∀ c : Fin 8, (s.register 0x17#6).getLsbD c.val = s.channels[c].run.gateOpen) ∧
    (s.register 0x18#6).toNat + 256 * (s.register 0x19#6).toNat = s.constants.epoch.toNat ∧
    (s.register 0x1A#6).toNat + 256 * (s.register 0x1B#6).toNat = s.events.toNat ∧
    (s.register 0x1C#6).toNat + 256 * (s.register 0x1D#6).toNat = s.enables.toNat ∧
    (s.register 0x1E#6).toNat = s.cfgen.toNat + 2 * s.pfail.toNat ∧
    (s.register 0x20#6).toNat + 256 * (s.register 0x21#6).toNat + 65536 * (s.register 0x22#6).toNat +
      16777216 * (s.register 0x23#6).toNat = s.generation.toNat ∧
    (∀ a : Address, a = 0x1F#6 ∨ 0x24 ≤ a.toNat → s.register a = 0x00#8)) ∧
  [DeviceState.starting, .ready, .halted, .powerdown].map DeviceState.code = [0, 1, 2, 3] ∧
  [EngineState.idle, .persisting, .held, .halted, .stopped].map EngineState.code = [0, 1, 2, 3, 4] ∧
  [ResultCode.ok, .notReady, .unknownCommand, .wrongState, .badArgument, .badOperand, .legLimit, .emptyDraft,
    .queueFull, .legsExhausted, .protected_, .pendingLocked, .sequenceExhausted, .notFound, .tooLate, .nothingToFold,
    .halted, .powerdown].map ResultCode.code = (List.range 18).map (BitVec.ofNat 8) ∧
  [Event.completion, .journalFull, .queueSpace, .limit, .stray, .overrun, .channelFault, .channelClosed, .nvFault,
    .pfail, .ready].map Event.bit = List.range 11 ∧
  (∀ (high : Bool) (data : Byte) (s : State),
    (s.writesAt (if high then 0x1B#6 else 0x1A#6) = true →
      ∃ t, exec (.events data) s = .next t ∧
        t = { s with
          events := t.events
          port := { s.port with address := if high then 0x1C#6 else 0x1B#6 } } ∧
        (s.device = .starting → t.events = s.events) ∧
        (s.device ≠ .starting → ∀ e : Event, t.latched e =
          (s.latched e && !(if high then decide (8 ≤ e.bit) && data.getLsbD (e.bit - 8) else data.getLsbD e.bit)))) ∧
    (s.writesAt (if high then 0x1D#6 else 0x1C#6) = true →
      ∃ t, exec (.eventEnable data) s = .next t ∧
        t = { s with
          enables := t.enables
          port := { s.port with address := if high then 0x1E#6 else 0x1D#6 } } ∧
        (s.device = .starting → t.enables = s.enables) ∧
        (s.device ≠ .starting → ∀ e : Event, t.enables.getLsbD e.bit =
          if high then (if 8 ≤ e.bit then data.getLsbD (e.bit - 8) else s.enables.getLsbD e.bit)
          else (if e.bit < 8 then data.getLsbD e.bit else s.enables.getLsbD e.bit)))) ∧
  (∀ s : State, s.intLow = true ↔
    s.powered = true ∧ s.resetPin = false ∧ ∃ e : Event, s.latched e = true ∧ s.enables.getLsbD e.bit = true)

/-! ### Refusals of the host commands (Chapter 11) -/

/-- R189, R119: every command written during STARTING is answered NOT_READY and changes nothing; a code that names no
command is answered UNKNOWN_COMMAND in the other device states; HALTED, POWERDOWN and the span of power-fail work
refuse the commands of R189's table with the code that refuses each, and nothing else changes; and each of the five
channel commands refuses a channel above 7. -/
def Obligations.HostCommandsRefused : Prop :=
  (∀ (c : Instr) (code : Byte) (ends : Bool) (s : State), c.wellFormed = true → hostCode c = some (code, ends) →
    s.AtCommand → s.device = .starting → exec c s = .next (s.replied code ends .notReady)) ∧
  (∀ (code : Byte) (s : State), code ∉ commandCodes → s.AtCommand → s.device ≠ .starting →
    exec (.unknownCommand code) s = .next (s.answered code .unknownCommand)) ∧
  (∀ (c : Instr) (code : Byte) (ends : Bool) (s : State), hostCode c = some (code, ends) → s.AtCommand →
    (s.device = .halted →
      c ∈ [.openDraft, .leg, .field, .submit, .writePending, .cancel, .foldNow, .clearFault] →
      exec c s = .next (s.replied code ends .halted)) ∧
    (s.device = .powerdown →
      c ∈ [.openDraft, .leg, .field, .submit, .discard, .writePending, .cancel, .pop, .pin, .unpin, .softReset,
        .ackStatus, .gateOpen, .gateClose, .ackStray, .foldNow, .clearFault] →
      exec c s = .next (s.replied code ends .powerdown)) ∧
    (s.device = .ready → s.pfTaken = true →
      c ∈ [.cancel, .pop, .pin, .unpin, .softReset, .gateOpen, .gateClose, .ackStray, .foldNow, .clearFault] →
      exec c s = .next (s.replied code ends .powerdown))) ∧
  (∀ s : State, 7 < s.args[0].toNat →
    (s.TakesUpkeep →
      exec .gateOpen s = .next (s.answered 0x10 .badArgument) ∧
      exec .gateClose s = .next (s.answered 0x11 .badArgument) ∧
      exec .ackStray s = .next (s.answered 0x14 .badArgument)) ∧
    (s.TakesService →
      exec .foldNow s = .next (s.answered 0x12 .badArgument) ∧
      exec .clearFault s = .next (s.answered 0x13 .badArgument)))

/-! ### Composing work (Chapter 4) -/

/-- R58, R59: OPEN makes the EMPTY draft OPEN with the kind and tag of its arguments and the starting body of its
kind; it refuses an OPEN draft, arguments out of range, and a configuration kind without CFGEN, in that order. -/
def Obligations.OpenMakesDraft : Prop :=
  ∀ s : State, s.TakesWork →
    (∀ d, s.draft = some d → exec .openDraft s = .next (s.replied 0x01 true .wrongState)) ∧
    (s.draft = none →
      (∀ mode : GuardMode, s.args[0] = 0#8 → s.args[5] = mode.code →
        exec .openDraft s = .next
          ((s.replied 0x01 true .ok).withDraft (Half.ofBytes s.args[1] s.args[2])
            (.posting (Half.ofBytes s.args[3] s.args[4]) mode []))) ∧
      (∀ t : Fin 64, s.args[0] = 1#8 → s.args[6].toNat = t.val → s.cfgen = true →
        exec .openDraft s = .next
          ((s.replied 0x01 true .ok).withDraft (Half.ofBytes s.args[1] s.args[2])
            (.configureTotaliser t TotFields.empty))) ∧
      (∀ c : Fin 8, s.args[0] = 2#8 → s.args[6].toNat = c.val → s.cfgen = true →
        exec .openDraft s = .next
          ((s.replied 0x01 true .ok).withDraft (Half.ofBytes s.args[1] s.args[2])
            (.configureChannel c ChannelFields.empty))) ∧
      (s.args[0] = 3#8 →
        exec .openDraft s = .next
          ((s.replied 0x01 true .ok).withDraft (Half.ofBytes s.args[1] s.args[2]) .switch)) ∧
      (s.args[0] = 4#8 →
        ∃ selection : BitVec 64, (∀ t : Fin 64, selection.getLsbD t.val = true) ∧
          exec .openDraft s = .next
            ((s.replied 0x01 true .ok).withDraft (Half.ofBytes s.args[1] s.args[2]) (.checkpoint selection))) ∧
      ((4 < s.args[0].toNat ∨ (s.args[0] = 0#8 ∧ 1 < s.args[5].toNat) ∨
          (s.args[0] = 1#8 ∧ 63 < s.args[6].toNat) ∨ (s.args[0] = 2#8 ∧ 7 < s.args[6].toNat)) →
        exec .openDraft s = .next (s.replied 0x01 true .badArgument)) ∧
      ((s.args[0] = 1#8 ∧ s.args[6].toNat ≤ 63) ∨ (s.args[0] = 2#8 ∧ s.args[6].toNat ≤ 7) → s.cfgen = false →
        exec .openDraft s = .next (s.replied 0x01 true .protected_)))

/-- R60 to R62: a LEG whose arguments, with the operand buffer where the source is IMMEDIATE, describe a leg appends
that leg to a POSTING draft of fewer than 8 legs. -/
def Obligations.LegAppends : Prop :=
  ∀ (s : State) (tag epoch : Half) (mode : GuardMode) (legs : List Leg) (l : Leg), s.TakesWork →
    s.draft = some { tag := tag, body := .posting epoch mode legs } → legs.length < 8 →
    l.DescribedBy s.args s.operand →
    exec .leg s = .next
      ((s.replied 0x02 true .ok).withDraft tag (.posting epoch mode (legs ++ [l])))

/-- R61, R62: what refuses a LEG, in the order of R62: no POSTING draft; an argument set that describes no leg;
8 legs held; an operand buffer that an IMMEDIATE source cannot take. -/
def Obligations.LegRefused : Prop :=
  ∀ s : State, s.TakesWork →
    ((∀ tag epoch mode legs, s.draft ≠ some { tag := tag, body := .posting epoch mode legs }) →
      exec .leg s = .next (s.replied 0x02 true .wrongState)) ∧
    (∀ tag epoch mode legs, s.draft = some { tag := tag, body := .posting epoch mode legs } →
      (LegMisdescribed s.args → exec .leg s = .next (s.replied 0x02 true .badArgument)) ∧
      (¬LegMisdescribed s.args → 8 ≤ legs.length → exec .leg s = .next (s.replied 0x02 true .legLimit)) ∧
      (¬LegMisdescribed s.args → legs.length < 8 → s.args[2] = 0#8 →
        s.operand.count = 0 ∨ s.operand.badDigit = true ∨ s.operand.overrun = true →
        exec .leg s = .next (s.replied 0x02 true .badOperand)))

/-- R63 to R66: FIELD sets one field of a CONFIGURE_TOTALISER or CONFIGURE_CHANNEL draft to the value its arguments give,
with the decimal of the operand buffer for UPPER, LOWER, INITIAL and the quantum, or replaces the selection of a
CHECKPOINT draft by the set of ARG1 to ARG8. -/
def Obligations.FieldSetsOneField : Prop :=
  (∀ (s : State) (tag : Half) (target : Fin 64) (f : TotFields), s.TakesWork →
    s.draft = some { tag := tag, body := .configureTotaliser target f } →
    (∀ k : Kind, s.args[0] = 0#8 → s.args[1] = k.code → exec .field s = .next
      ((s.replied 0x03 true .ok).withDraft tag (.configureTotaliser target { f with kind := some k }))) ∧
    (s.args[0] = 1#8 → s.args[1].toNat ≤ 6 → exec .field s = .next
      ((s.replied 0x03 true .ok).withDraft tag
        (.configureTotaliser target { f with scale := some s.args[1].toNat }))) ∧
    (∀ r : Rounding, s.args[0] = 2#8 → s.args[1] = r.code → exec .field s = .next
      ((s.replied 0x03 true .ok).withDraft tag (.configureTotaliser target { f with rounding := some r }))) ∧
    (∀ p : Policy, s.args[0] = 3#8 → s.args[1] = p.code → exec .field s = .next
      ((s.replied 0x03 true .ok).withDraft tag (.configureTotaliser target { f with policy := some p }))) ∧
    (s.args[0] = 4#8 → s.args[1] = 0#8 ∨ s.args[1] = 1#8 → exec .field s = .next
      ((s.replied 0x03 true .ok).withDraft tag
        (.configureTotaliser target { f with active := some (s.args[1] == 1#8) }))) ∧
    (s.args[0] = 5#8 → s.args[1] = 0#8 → exec .field s = .next
      ((s.replied 0x03 true .ok).withDraft tag (.configureTotaliser target { f with upper := some none }))) ∧
    (s.args[0] = 6#8 → s.args[1] = 0#8 → exec .field s = .next
      ((s.replied 0x03 true .ok).withDraft tag (.configureTotaliser target { f with lower := some none }))) ∧
    (s.args[2] = 0#8 ∨ s.args[2] = 1#8 → s.args[3].toNat ≤ 8 → s.operand.accepted = true →
      let d := Dec.ofSign (s.args[2] == 1#8) s.operand.coefficient s.args[3].toNat
      (s.args[0] = 5#8 → s.args[1] = 1#8 → exec .field s = .next
        ((s.replied 0x03 true .ok).withDraft tag (.configureTotaliser target { f with upper := some (some d) }))) ∧
      (s.args[0] = 6#8 → s.args[1] = 1#8 → exec .field s = .next
        ((s.replied 0x03 true .ok).withDraft tag (.configureTotaliser target { f with lower := some (some d) }))) ∧
      (s.args[0] = 7#8 → exec .field s = .next
        ((s.replied 0x03 true .ok).withDraft tag (.configureTotaliser target { f with initial := some d }))))) ∧
  (∀ (s : State) (tag : Half) (target : Fin 8) (f : ChannelFields), s.TakesWork →
    s.draft = some { tag := tag, body := .configureChannel target f } →
    (s.args[0] = 8#8 → s.args[1] = 0#8 ∨ s.args[1] = 1#8 → exec .field s = .next
      ((s.replied 0x03 true .ok).withDraft tag
        (.configureChannel target { f with enabled := some (s.args[1] == 1#8) }))) ∧
    (∀ e : EdgeSelect, s.args[0] = 9#8 → s.args[1] = e.code → exec .field s = .next
      ((s.replied 0x03 true .ok).withDraft tag (.configureChannel target { f with edge := some e }))) ∧
    (s.args[0] = 10#8 → exec .field s = .next
      ((s.replied 0x03 true .ok).withDraft tag
        (.configureChannel target { f with spacing := some s.args[1].toNat }))) ∧
    (∀ t : Fin 64, s.args[0] = 11#8 → s.args[1].toNat = t.val → exec .field s = .next
      ((s.replied 0x03 true .ok).withDraft tag (.configureChannel target { f with target := some t }))) ∧
    (s.args[0] = 12#8 → s.args[3].toNat ≤ 10 → s.operand.accepted = true →
      s.operand.coefficient < 10 ^ 12 → exec .field s = .next
      ((s.replied 0x03 true .ok).withDraft tag
        (.configureChannel target { f with quantum := some { value := s.operand.coefficient, scale := s.args[3].toNat } }))) ∧
    (∀ d : Direction, s.args[0] = 13#8 → s.args[1] = d.code → exec .field s = .next
      ((s.replied 0x03 true .ok).withDraft tag (.configureChannel target { f with direction := some d }))) ∧
    (∀ n : Nat, s.args[0] = 14#8 → s.args[1].toNat + 256 * s.args[2].toNat = n → 1 ≤ n → n ≤ 4096 →
      exec .field s = .next
      ((s.replied 0x03 true .ok).withDraft tag (.configureChannel target { f with threshold := some n })))) ∧
  (∀ (s : State) (tag : Half) (old new : BitVec 64), s.TakesWork →
    s.draft = some { tag := tag, body := .checkpoint old } → s.args[0] = 15#8 →
    (∀ (k n : Fin 8), new.getLsbD (8 * k.val + n.val) = s.args[k.val + 1].getLsbD n.val) → new ≠ 0#64 →
    exec .field s = .next
      ((s.replied 0x03 true .ok).withDraft tag (.checkpoint new)))

/-- R63 to R66: what refuses a FIELD: a draft without fields, a field code of another kind, arguments out of the
field's range, and an operand buffer that the field cannot take. -/
def Obligations.FieldRefused : Prop :=
  ∀ s : State, s.TakesWork →
    ((∀ d, s.draft = some d → (∃ epoch mode legs, d.body = .posting epoch mode legs) ∨ d.body = .switch) →
      exec .field s = .next (s.replied 0x03 true .wrongState)) ∧
    (∀ tag t f, s.draft = some { tag := tag, body := .configureTotaliser t f } →
      ((7 < s.args[0].toNat ∨ (s.args[0] = 0#8 ∧ 2 < s.args[1].toNat) ∨ (s.args[0] = 1#8 ∧ 6 < s.args[1].toNat) ∨
          (s.args[0] = 2#8 ∧ 3 < s.args[1].toNat) ∨ (s.args[0] = 3#8 ∧ 2 < s.args[1].toNat) ∨
          (s.args[0] = 4#8 ∧ 1 < s.args[1].toNat) ∨
          ((s.args[0] = 5#8 ∨ s.args[0] = 6#8) ∧ 1 < s.args[1].toNat) ∨
          (((s.args[0] = 5#8 ∨ s.args[0] = 6#8) ∧ s.args[1] = 1#8 ∨ s.args[0] = 7#8) ∧
            (1 < s.args[2].toNat ∨ 8 < s.args[3].toNat))) →
        exec .field s = .next (s.replied 0x03 true .badArgument)) ∧
      ((s.args[0] = 5#8 ∨ s.args[0] = 6#8) ∧ s.args[1] = 1#8 ∨ s.args[0] = 7#8 →
        s.args[2].toNat ≤ 1 → s.args[3].toNat ≤ 8 → s.operand.accepted = false →
        exec .field s = .next (s.replied 0x03 true .badOperand))) ∧
    (∀ tag c f, s.draft = some { tag := tag, body := .configureChannel c f } →
      ((s.args[0].toNat < 8 ∨ 14 < s.args[0].toNat ∨ (s.args[0] = 8#8 ∧ 1 < s.args[1].toNat) ∨
          (s.args[0] = 9#8 ∧ 2 < s.args[1].toNat) ∨ (s.args[0] = 11#8 ∧ 63 < s.args[1].toNat) ∨
          (s.args[0] = 12#8 ∧ 10 < s.args[3].toNat) ∨ (s.args[0] = 13#8 ∧ 1 < s.args[1].toNat) ∨
          (s.args[0] = 14#8 ∧ (s.args[1].toNat + 256 * s.args[2].toNat = 0 ∨
            4096 < s.args[1].toNat + 256 * s.args[2].toNat))) →
        exec .field s = .next (s.replied 0x03 true .badArgument)) ∧
      (s.args[0] = 12#8 → s.args[3].toNat ≤ 10 →
        s.operand.accepted = false ∨ 10 ^ 12 ≤ s.operand.coefficient →
        exec .field s = .next (s.replied 0x03 true .badOperand))) ∧
    (∀ tag x, s.draft = some { tag := tag, body := .checkpoint x } →
      s.args[0] ≠ 15#8 ∨ (∀ k : Fin 8, s.args[k.val + 1] = 0#8) →
      exec .field s = .next (s.replied 0x03 true .badArgument))

/-- R69, R76, R77: a SUBMIT that passes its tests appends the draft to the queue with the next sequence number,
writes that number to ARG0 to ARG3, locks the pending bank for a SWITCH, and empties the draft. -/
def Obligations.SubmitHandsOver : Prop :=
  ∀ (s : State) (d : Draft) (n : Word), s.TakesWork → s.pfTaken = false → s.draft = some d →
    s.queue.nextSeq = some n → s.queue.items.length < 16 → s.queue.legsHeld + d.legs.length ≤ 48 →
    (∀ epoch mode, d.body ≠ .posting epoch mode []) → (d.body.isConfiguration = true → s.cfgen = true) →
    (d.body = .switch → s.constants.lock = none) →
    ∃ args : Vector Byte 12,
      sequenceArg args = n ∧ (∀ i : Fin 12, 4 ≤ i.val → args[i] = s.args[i]) ∧
      exec .submit s = .next
        { s.answered 0x04 .ok with
          queue := { s.queue with
            items := s.queue.items ++ [{ seq := n, active := false, draft := d }]
            nextSeq := if n = 0xFFFFFFFF#32 then none else some (n + 1) }
          constants := { s.constants with lock := if d.body = .switch then some n else s.constants.lock }
          args := args
          draft := none }

/-- R68, R70, R83: the eight tests of SUBMIT in their order; a refusal for lack of space sets the space wanted mark
and no refusal changes anything else. -/
def Obligations.SubmitRefused : Prop :=
  ∀ s : State, s.TakesWork →
    (s.draft = none → exec .submit s = .next (s.answered 0x04 .wrongState)) ∧
    (∀ d, s.draft = some d →
      ((∃ epoch mode, d.body = .posting epoch mode []) →
        exec .submit s = .next (s.answered 0x04 .emptyDraft)) ∧
      (d.body.isConfiguration = true → s.cfgen = false →
        exec .submit s = .next (s.answered 0x04 .protected_)) ∧
      (d.body = .switch → s.constants.lock.isSome = true →
        exec .submit s = .next (s.answered 0x04 .pendingLocked)) ∧
      ((∀ epoch mode, d.body ≠ .posting epoch mode []) → (d.body.isConfiguration = true → s.cfgen = true) →
        (d.body = .switch → s.constants.lock = none) →
        (s.pfTaken = true → exec .submit s = .next (s.answered 0x04 .powerdown)) ∧
        (s.pfTaken = false → s.queue.nextSeq = none →
          exec .submit s = .next (s.answered 0x04 .sequenceExhausted)) ∧
        (∀ n, s.pfTaken = false → s.queue.nextSeq = some n →
          (16 ≤ s.queue.items.length → exec .submit s = .next
            { s.answered 0x04 .queueFull with queue := { s.queue with spaceWanted := true } }) ∧
          (s.queue.items.length < 16 → 48 < s.queue.legsHeld + d.legs.length → s.queue.legsHeld ≤ 48 →
            exec .submit s = .next
              { s.answered 0x04 .legsExhausted with queue := { s.queue with spaceWanted := true } }))))

/-- R71: DISCARD empties an OPEN draft and refuses an EMPTY one; the operand series and everything else stay. -/
def Obligations.DiscardEmptiesDraft : Prop :=
  ∀ s : State, s.TakesAcks →
    (s.draft = none → exec .discard s = .next (s.answered 0x05 .wrongState)) ∧
    (∀ d, s.draft = some d → exec .discard s = .next { s.answered 0x05 .ok with draft := none })

/-! ### The posting queue and the constant table (Chapters 3 and 5) -/

/-- R81, R83, R49: CANCEL removes the QUEUED item of the number in ARG0 to ARG3, freeing the pending lock that a
SWITCH holds and raising QUEUE_SPACE when space was wanted; it answers TOO_LATE for an ACTIVE item and NOT_FOUND
for a number not held. -/
def Obligations.CancelWithdraws : Prop :=
  ∀ s : State, s.TakesService →
    ((∀ q ∈ s.queue.items, q.seq ≠ sequenceArg s.args) →
      exec .cancel s = .next (s.answered 0x06 .notFound)) ∧
    (∀ (before after : List QueueItem) (q : QueueItem), s.queue.items = before ++ q :: after →
      (∀ x ∈ before, x.seq ≠ sequenceArg s.args) → q.seq = sequenceArg s.args →
      (q.active = true → exec .cancel s = .next (s.answered 0x06 .tooLate)) ∧
      (q.active = false → exec .cancel s = .next
        { s.answered 0x06 .ok with
          queue := { s.queue with items := before ++ after, spaceWanted := false }
          constants := { s.constants with lock :=
            if q.draft.body = .switch ∧ s.constants.lock = some q.seq then none else s.constants.lock }
          events := if s.queue.spaceWanted = true then s.events ||| Event.queueSpace.mask else s.events }))

/-- R46 to R48, R50: WRITE_PENDING replaces one pending entry by an invalid one or by the buffer's decimal, refuses
bad arguments, a LOCKED bank and a buffer that is no constant, in that order, and always ends the series. -/
def Obligations.WritePendingEntry : Prop :=
  ∀ s : State, s.TakesWork →
    ((31 < s.args[0].toNat ∨ 1 < s.args[1].toNat ∨
        (s.args[1] = 1#8 ∧ (1 < s.args[2].toNat ∨ 10 < s.args[3].toNat))) →
      exec .writePending s = .next (s.replied 0x07 true .badArgument)) ∧
    (∀ i : Fin 32, s.args[0].toNat = i.val →
      (s.args[1] = 0#8 →
        (s.constants.lock.isSome = true → exec .writePending s = .next (s.replied 0x07 true .pendingLocked)) ∧
        (s.constants.lock = none → exec .writePending s = .next
          { s.replied 0x07 true .ok with constants :=
            { s.constants with pending := s.constants.pending.set i none } })) ∧
      (s.args[1] = 1#8 → s.args[2].toNat ≤ 1 → s.args[3].toNat ≤ 10 →
        (s.constants.lock.isSome = true → exec .writePending s = .next (s.replied 0x07 true .pendingLocked)) ∧
        (s.constants.lock = none → s.operand.accepted = true → s.operand.coefficient < 10 ^ 12 →
          exec .writePending s = .next
            { s.replied 0x07 true .ok with constants :=
              { s.constants with pending := s.constants.pending.set i (some
                { value := if s.args[2] = 1#8 then -(s.operand.coefficient : Int) else s.operand.coefficient
                  scale := s.args[3].toNat }) } }) ∧
        (s.constants.lock = none → s.operand.accepted = false ∨ 10 ^ 12 ≤ s.operand.coefficient →
          exec .writePending s = .next (s.replied 0x07 true .badOperand))))

/-! ### Status flags, the journal, the pins and SOFT_RESET (Chapters 2, 6, 8 and 9) -/

/-- R35: ACK_STATUS clears the three status flags of one totaliser in READY and HALTED and touches nothing else, not
even the LIMIT latch; an index above 63 is BAD_ARGUMENT; STARTING answers NOT_READY and POWERDOWN POWERDOWN. -/
def Obligations.AckStatusClearsFlags : Prop :=
  ∀ s : State, s.AtCommand →
    (s.device = .ready ∨ s.device = .halted →
      (63 < s.args[0].toNat → exec .ackStatus s = .next (s.answered 0x08 .badArgument)) ∧
      (∀ t : Fin 64, s.args[0].toNat = t.val →
        exec .ackStatus s = .next { s.answered 0x08 .ok with totals :=
          (s.totals.set t ⟨s.totals[t].data, false, false, false⟩) })) ∧
    (s.device = .starting → exec .ackStatus s = .next (s.answered 0x08 .notReady)) ∧
    (s.device = .powerdown → exec .ackStatus s = .next (s.answered 0x08 .powerdown))

/-- R148, R112, R159, R160: POP removes the oldest entry, advances the journal head and ends HELD at 30 entries; PIN and
UNPIN set and clear one FILLED slot's pin and nothing else; PIN refuses a slot above 3, an EMPTY slot and the chosen
slot in that order, UNPIN the first two. -/
def Obligations.PopAndPins : Prop :=
  (∀ s : State, s.TakesUpkeep →
    (s.journal.entries = [] → exec .pop s = .next (s.answered 0x09 .wrongState)) ∧
    (∀ e rest, s.journal.entries = e :: rest → exec .pop s = .next
      { s.answered 0x09 .ok with
        journal := { counter := s.journal.counter, head := s.journal.head + 1, entries := rest }
        engine := { s.engine with state :=
          if s.engine.state = .held ∧ rest.length ≤ 30 then .idle else s.engine.state } })) ∧
  (∀ s : State, s.TakesUpkeep →
    (3 < s.args[0].toNat →
      exec .pin s = .next (s.answered 0x0A .badArgument) ∧ exec .unpin s = .next (s.answered 0x0B .badArgument)) ∧
    (∀ i : Fin 4, s.args[0].toNat = i.val →
      (s.checkpoints.slots[i].content = none →
        exec .pin s = .next (s.answered 0x0A .wrongState) ∧ exec .unpin s = .next (s.answered 0x0B .wrongState)) ∧
      (s.checkpoints.slots[i].content.isSome = true →
        (s.checkpoints.slots[i].inFlight = true → exec .pin s = .next (s.answered 0x0A .tooLate)) ∧
        (s.checkpoints.slots[i].inFlight = false → exec .pin s = .next
          { s.answered 0x0A .ok with checkpoints :=
            { s.checkpoints with slots :=
              (s.checkpoints.slots.set i ⟨s.checkpoints.slots[i].content, true, false⟩) } }) ∧
        exec .unpin s = .next
          { s.answered 0x0B .ok with checkpoints :=
            { s.checkpoints with slots :=
              (s.checkpoints.slots.set i
                ⟨s.checkpoints.slots[i].content, false, s.checkpoints.slots[i].inFlight⟩) } })))

/-- R113, R174, R175, R194, R199: SOFT_RESET restarts the part at once, COMMAND then 0 and RESULT OK (log 29) and the SPI
transaction going on (log 21), and is deferred while the engine is PERSISTING; a RESET-line assertion cuts what the
NV array was being written, its area whole or failing its check as the sender says (log 11), clears the RAM state and
closes the port; the release takes the line levels and begins start-up; a power loss cuts likewise and POWER_ON begins
start-up. RAM during the loss is not read (log 22), and where no rule gives a RAM value for STARTING it is the model's
choice (log 6). -/
def Obligations.ResetsAndSupply : Prop :=
  (∀ s : State, s.TakesUpkeep →
    (s.engine.state ≠ .persisting → exec .softReset s = .next (s.restarted s.port)) ∧
    (s.engine.state = .persisting → exec .softReset s = .next
      { s.answered 0x3F .ok with engine := { s.engine with deferredReset := true } })) ∧
  (∀ (written : Bool) (s : State), s.powered = true → s.resetPin = false → s.commit = none → s.startup = none →
    exec (.resetLineAssertion written) s = .next
      (State.cleared s.nv Port.closed s.cfgen s.pfail true true s.pending s.freeCount)) ∧
  (∀ (written : Bool) (c : Commit) (s : State), s.powered = true → s.resetPin = false → s.commit = some c →
    s.startup = none →
    exec (.resetLineAssertion written) s = .next
      (State.cleared (s.nv.breakCommit written c) Port.closed s.cfgen s.pfail true true s.pending s.freeCount)) ∧
  (∀ (written : Bool) (j : Startup) (s : State), s.powered = true → s.resetPin = false → s.commit = none →
    s.startup = some j →
    exec (.resetLineAssertion written) s = .next
      (State.cleared (s.nv.breakStartup written j) Port.closed s.cfgen s.pfail true true s.pending s.freeCount)) ∧
  (∀ (cfgen pfail : Bool) (s : State), s.powered = true → s.resetPin = true →
    exec (.resetLineRelease cfgen pfail) s = .next
      ({ s with cfgen := cfgen, pfail := pfail, resetPin := false }.restarted s.port)) ∧
  (∀ (written : Bool) (s : State), s.powered = true → s.commit = none → s.startup = none →
    exec (.powerLoss written) s = .next { s with powered := false, port := Port.closed }) ∧
  (∀ (written : Bool) (c : Commit) (s : State), s.powered = true → s.commit = some c → s.startup = none →
    exec (.powerLoss written) s = .next
      { s with nv := s.nv.breakCommit written c, commit := none, powered := false, port := Port.closed }) ∧
  (∀ (written : Bool) (j : Startup) (s : State), s.powered = true → s.commit = none → s.startup = some j →
    exec (.powerLoss written) s = .next
      { s with nv := s.nv.breakStartup written j, startup := none, powered := false, port := Port.closed }) ∧
  (∀ (cfgen pfail : Bool) (s : State), s.powered = false →
    exec (.powerOn cfgen pfail) s = .next
      ({ s with cfgen := cfgen, pfail := pfail, resetPin := false, powered := true }.restarted Port.closed))

/-! ### Pulse channels (Chapter 7) -/

/-- R124: GATE_OPEN by the channel's state, the stray count and the last accepted edge kept; under ChannelLaw a
channel that enters COUNTING has an unfolded count of 0. -/
def Obligations.GateOpenByState : Prop :=
  ∀ (c : Fin 8) (s : State), s.TakesUpkeep → s.args[0].toNat = c.val →
    let r := s.channels[c].run
    (r.state = .disabled ∨ r.state = .draining → exec .gateOpen s = .next (s.answered 0x10 .wrongState)) ∧
    (r.state = .idle → r.configInFlight = true → exec .gateOpen s = .next (s.answered 0x10 .wrongState)) ∧
    (r.state = .idle → r.configInFlight = false → exec .gateOpen s = .next
      ((s.answered 0x10 .ok).withRun c { r with state := .counting, gateOpen := true })) ∧
    (r.state = .idle → ChannelLaw s → r.unfolded = 0) ∧
    (r.state = .counting → exec .gateOpen s = .next (s.answered 0x10 .ok)) ∧
    (r.state = .faulted → exec .gateOpen s = .next ((s.answered 0x10 .ok).withRun c { r with gateOpen := true }))

/-- R125, R126, R122: GATE_CLOSE by the channel's state: a COUNTING channel with nothing left becomes IDLE and
raises CHANNEL_CLOSED, and otherwise drains, its request raised at the same event unless a fold is in flight, a
PFAIL assertion has been taken, or one is pending already. -/
def Obligations.GateCloseByState : Prop :=
  ∀ (c : Fin 8) (s : State), s.TakesUpkeep → s.args[0].toNat = c.val →
    let r := s.channels[c].run
    (r.state = .disabled → exec .gateClose s = .next (s.answered 0x11 .wrongState)) ∧
    (r.state = .idle ∨ r.state = .draining → exec .gateClose s = .next (s.answered 0x11 .ok)) ∧
    (r.state = .counting → r.unfolded = 0 → r.inFlight = none → exec .gateClose s = .next
      (((s.answered 0x11 .ok).withRun c { r with state := .idle, gateOpen := false }).raised .channelClosed)) ∧
    (r.state = .counting → 0 < r.unfolded ∨ r.inFlight.isSome = true → exec .gateClose s = .next
      ((s.answered 0x11 .ok).withRun c
        { r with
          state := .draining
          gateOpen := false
          request := r.request || (r.inFlight.isNone && !s.pfTaken && decide (0 < r.unfolded)) })) ∧
    (r.state = .faulted → exec .gateClose s = .next ((s.answered 0x11 .ok).withRun c { r with gateOpen := false }))

/-- R123: FOLD_NOW's three tests in order, and the request it raises or leaves pending. -/
def Obligations.FoldNowRaisesRequest : Prop :=
  ∀ (c : Fin 8) (s : State), s.TakesService → s.args[0].toNat = c.val →
    let r := s.channels[c].run
    (r.state = .disabled ∨ r.state = .faulted → exec .foldNow s = .next (s.answered 0x12 .wrongState)) ∧
    (r.state ≠ .disabled → r.state ≠ .faulted →
      (r.unfolded = 0 → exec .foldNow s = .next (s.answered 0x12 .nothingToFold)) ∧
      (0 < r.unfolded → r.inFlight.isSome = true → exec .foldNow s = .next (s.answered 0x12 .wrongState)) ∧
      (0 < r.unfolded → r.inFlight = none → exec .foldNow s = .next
        ((s.answered 0x12 .ok).withRun c { r with request := true })))

/-- R127, R122, R126: CLEAR_FAULT by the channel's gate and count, the counts and the overrun mark kept. -/
def Obligations.ClearFaultByGate : Prop :=
  ∀ (c : Fin 8) (s : State), s.TakesService → s.args[0].toNat = c.val →
    let r := s.channels[c].run
    (r.state ≠ .faulted → exec .clearFault s = .next (s.answered 0x13 .wrongState)) ∧
    (r.state = .faulted → r.gateOpen = true → exec .clearFault s = .next
      ((s.answered 0x13 .ok).withRun c
        { r with
          state := .counting
          request := r.request || (r.inFlight.isNone && decide (s.channels[c].config.threshold ≤ r.unfolded)) })) ∧
    (r.state = .faulted → r.gateOpen = false → 0 < r.unfolded → exec .clearFault s = .next
      ((s.answered 0x13 .ok).withRun c
        { r with state := .draining, request := r.request || r.inFlight.isNone })) ∧
    (r.state = .faulted → r.gateOpen = false → r.unfolded = 0 → exec .clearFault s = .next
      (((s.answered 0x13 .ok).withRun c { r with state := .idle }).raised .channelClosed))

/-- R128: ACK_STRAY sets the stray count to 0 in every channel state and changes no other field and no event. -/
def Obligations.AckStrayClearsCount : Prop :=
  ∀ (c : Fin 8) (s : State), s.TakesUpkeep → s.args[0].toNat = c.val →
    exec .ackStray s = .next
      ((s.answered 0x14 .ok).withRun c { s.channels[c].run with stray := 0 })

/-- R120 to R122: an edge that is not accepted changes nothing; an accepted one becomes the last accepted edge and
is counted, or lost at 65535 with OVERRUN, while the gate is OPEN, and is a stray with STRAY raised while it is
SHUT; the request rises when its condition then holds. -/
def Obligations.EdgeCounted : Prop :=
  ∀ (c : Fin 8) (rising : Bool) (time : Nat) (s : State),
    (¬s.EdgeAccepted c rising time → exec (.edge c rising time) s = .next s) ∧
    (s.EdgeAccepted c rising time →
      let r := s.channels[c].run
      let due (n : Nat) : Bool := r.request || (r.inFlight.isNone &&
        ((r.state == .counting && decide (s.channels[c].config.threshold ≤ n)) ||
          (r.state == .draining && decide (0 < n))))
      (r.state = .counting ∨ (r.state = .faulted ∧ r.gateOpen = true) →
        (r.unfolded < 65535 → exec (.edge c rising time) s = .next (s.withRun c
          { r with lastEdge := some time, unfolded := r.unfolded + 1, request := due (r.unfolded + 1) })) ∧
        (r.unfolded = 65535 → exec (.edge c rising time) s = .next ((s.withRun c
          { r with lastEdge := some time, overrun := true, request := due 65535 }).raised .overrun))) ∧
      (r.state = .idle ∨ r.state = .draining ∨ (r.state = .faulted ∧ r.gateOpen = false) →
        (r.stray < 65535 → exec (.edge c rising time) s = .next ((s.withRun c
          { r with lastEdge := some time, stray := r.stray + 1, request := due r.unfolded }).raised .stray)) ∧
        (r.stray = 65535 → exec (.edge c rising time) s = .next ((s.withRun c
          { r with lastEdge := some time, request := due r.unfolded }).raised .stray))))

/-! ### Readout (Chapter 11) -/

/-- R191 with the owning rules: each LOAD copies its record into the readout buffer in READY, HALTED and POWERDOWN,
and a refused one leaves the buffer. -/
def Obligations.LoadsCopyRecords : Prop :=
  ∀ s : State, s.TakesLoads →
    (∀ t : Fin 64, s.args[0].toNat = t.val →
      exec .loadTotaliser s = .next (s.loaded 0x21 1 (totaliserRecord t s.totals[t]))) ∧
    (63 < s.args[0].toNat → exec .loadTotaliser s = .next (s.answered 0x21 .badArgument)) ∧
    (∀ i : Fin 32, s.args[0].toNat = i.val → s.args[1].toNat ≤ 1 →
      exec .loadConstant s = .next (s.loaded 0x22 2 (constantRecord (s.args[1] == 1#8) i s.constants))) ∧
    (31 < s.args[0].toNat ∨ 1 < s.args[1].toNat →
      exec .loadConstant s = .next (s.answered 0x22 .badArgument)) ∧
    (∀ c : Fin 8, s.args[0].toNat = c.val →
      exec .loadChannel s = .next (s.loaded 0x23 3 (channelRecord c s.channels[c]))) ∧
    (7 < s.args[0].toNat → exec .loadChannel s = .next (s.answered 0x23 .badArgument)) ∧
    (∀ q, s.args[0].toNat ≤ 15 → s.queue.items[s.args[0].toNat]? = some q →
      exec .loadQueueEntry s = .next
        (s.loaded 0x24 4 (queueRecord s.args[0].toNat s.queue.items.length q))) ∧
    (s.args[0].toNat ≤ 15 → s.queue.items.length ≤ s.args[0].toNat →
      exec .loadQueueEntry s = .next (s.answered 0x24 .notFound)) ∧
    (15 < s.args[0].toNat → exec .loadQueueEntry s = .next (s.answered 0x24 .badArgument)) ∧
    (∀ e, s.args[0].toNat ≤ 31 → s.journal.entries[s.args[0].toNat]? = some e →
      exec .loadJournal s = .next
        (s.loaded 0x25 5 (journalRecord s.args[0].toNat s.journal.entries.length e))) ∧
    (s.args[0].toNat ≤ 31 → s.journal.entries.length ≤ s.args[0].toNat →
      exec .loadJournal s = .next (s.answered 0x25 .notFound)) ∧
    (31 < s.args[0].toNat → exec .loadJournal s = .next (s.answered 0x25 .badArgument)) ∧
    (∀ (i : Fin 4) (p : Fin 8), s.args[0].toNat = i.val → s.args[1].toNat = p.val →
      (∀ x, s.checkpoints.slots[i].content = some x →
        (p.val = 0 ∨ 8 * p.val < x.entries.length → exec .loadCheckpoint s = .next
          (s.loaded 0x26 6 (checkpointRecord i p.val s.checkpoints.slots[i] x))) ∧
        (0 < p.val → x.entries.length ≤ 8 * p.val →
          exec .loadCheckpoint s = .next (s.answered 0x26 .notFound))) ∧
      (s.checkpoints.slots[i].content = none →
        exec .loadCheckpoint s = .next (s.answered 0x26 .notFound))) ∧
    (3 < s.args[0].toNat ∨ 7 < s.args[1].toNat →
      exec .loadCheckpoint s = .next (s.answered 0x26 .badArgument)) ∧
    (∀ d, s.draft = some d → exec .loadDraft s = .next (s.loaded 0x27 7 (draftRecord d))) ∧
    (s.draft = none → exec .loadDraft s = .next (s.answered 0x27 .notFound)) ∧
    exec .loadStartupReport s = .next (s.loaded 0x28 8 (reportRecord s.report))

/-- R195 to R198, R1: where each field of each record stands and in what form, with the record's length: numbers least
significant byte first, values, constants and residues with their sign and digits (+ for zero), absent and INVALID
fields, sets, and the codes of states, kinds and marks. Fields that the record marks absent read 0; that a leg's source
index is so marked for IMMEDIATE and NONE is the model's reading (log 28). -/
def Obligations.RecordForms : Prop :=
  (∀ (t : Fin 64) (x : Totaliser),
    let b := totaliserRecord t x
    b.length = 45 ∧ numberAt b 0 1 = t.val ∧ numberAt b 1 1 = x.data.state.code.toNat ∧
    numberAt b 2 1 = x.data.kind.code.toNat ∧ (x.data.scale < 256 → numberAt b 3 1 = x.data.scale) ∧
    numberAt b 4 1 = x.data.rounding.code.toNat ∧ numberAt b 5 1 = x.data.policy.code.toNat ∧
    numberAt b 6 1 = x.atUpper.toNat + 2 * x.atLower.toNat + 4 * x.refused.toNat ∧
    LimitAt b 7 x.data.upper x.data.scale ∧ LimitAt b 17 x.data.lower x.data.scale ∧
    ValueAt b 27 x.data.value x.data.scale ∧ ResidueAt b 37 x.data.residue ∧
    numberAt b 41 4 = x.data.revision.toNat) ∧
  (∀ (pendingBank : Bool) (i : Fin 32) (c : Constants),
    let b := constantRecord pendingBank i c
    b.length = 16 ∧ numberAt b 0 1 = pendingBank.toNat ∧ numberAt b 1 1 = i.val ∧
    ConstantAt b 2 (if pendingBank = true then c.pending[i] else c.active[i]) ∧ numberAt b 9 2 = c.epoch.toNat ∧
    numberAt b 11 1 = c.lock.isSome.toNat ∧ numberAt b 12 4 = (c.lock.getD 0).toNat) ∧
  (∀ (c : Fin 8) (x : Channel),
    let b := channelRecord c x
    b.length = 23 ∧ numberAt b 0 1 = c.val ∧ numberAt b 1 1 = x.config.enabled.toNat ∧
    numberAt b 2 1 = x.config.edge.code.toNat ∧ (x.config.spacing < 256 → numberAt b 3 1 = x.config.spacing) ∧
    numberAt b 4 1 = x.config.target.val ∧ ConstantAt b 5 (some x.config.quantum) ∧
    numberAt b 12 1 = x.config.direction.code.toNat ∧
    (x.config.threshold < 65536 → numberAt b 13 2 = x.config.threshold) ∧
    numberAt b 15 1 = x.run.state.code.toNat ∧
    numberAt b 16 1 = x.run.gateOpen.toNat + 2 * x.run.request.toNat + 4 * x.run.inFlight.isSome.toNat +
      8 * x.run.overrun.toNat + 16 * x.run.configInFlight.toNat ∧
    (x.run.unfolded < 65536 → numberAt b 17 2 = x.run.unfolded) ∧
    (x.run.stray < 65536 → numberAt b 19 2 = x.run.stray) ∧
    (x.run.inFlight.getD 0 < 65536 → numberAt b 21 2 = x.run.inFlight.getD 0)) ∧
  (∀ (tag epoch : Half) (mode : GuardMode) (legs : List Leg),
    let b := draftRecord { tag := tag, body := .posting epoch mode legs }
    b.length = 7 + 18 * legs.length ∧ numberAt b 0 1 = 0 ∧ numberAt b 1 2 = tag.toNat ∧
    numberAt b 3 2 = epoch.toNat ∧ numberAt b 5 1 = mode.code.toNat ∧
    (legs.length < 256 → numberAt b 6 1 = legs.length) ∧
    ∀ i l, legs[i]? = some l → LegAt b (7 + 18 * i) l) ∧
  (∀ (tag : Half) (t : Fin 64) (f : TotFields),
    let b := draftRecord { tag := tag, body := .configureTotaliser t f }
    b.length = 40 ∧ numberAt b 0 1 = 1 ∧ numberAt b 1 2 = tag.toNat ∧ numberAt b 3 1 = t.val ∧
    numberAt b 4 1 = f.kind.isSome.toNat + 2 * f.scale.isSome.toNat + 4 * f.rounding.isSome.toNat +
      8 * f.policy.isSome.toNat + 16 * f.active.isSome.toNat + 32 * f.upper.isSome.toNat +
      64 * f.lower.isSome.toNat + 128 * f.initial.isSome.toNat ∧
    numberAt b 5 1 = codeNumber Kind.code f.kind ∧ (f.scale.getD 0 < 256 → numberAt b 6 1 = f.scale.getD 0) ∧
    numberAt b 7 1 = codeNumber Rounding.code f.rounding ∧ numberAt b 8 1 = codeNumber Policy.code f.policy ∧
    numberAt b 9 1 = (f.active.getD false).toNat ∧ LimitFieldAt b 10 f.upper ∧ LimitFieldAt b 20 f.lower ∧
    LimitFieldAt b 30 (f.initial.map some)) ∧
  (∀ (tag : Half) (c : Fin 8) (f : ChannelFields),
    let b := draftRecord { tag := tag, body := .configureChannel c f }
    b.length = 19 ∧ numberAt b 0 1 = 2 ∧ numberAt b 1 2 = tag.toNat ∧ numberAt b 3 1 = c.val ∧
    numberAt b 4 1 = f.enabled.isSome.toNat + 2 * f.edge.isSome.toNat + 4 * f.spacing.isSome.toNat +
      8 * f.target.isSome.toNat + 16 * f.quantum.isSome.toNat + 32 * f.direction.isSome.toNat +
      64 * f.threshold.isSome.toNat ∧
    numberAt b 5 1 = (f.enabled.getD false).toNat ∧ numberAt b 6 1 = codeNumber EdgeSelect.code f.edge ∧
    (f.spacing.getD 0 < 256 → numberAt b 7 1 = f.spacing.getD 0) ∧
    numberAt b 8 1 = (f.target.map Fin.val).getD 0 ∧
    (∀ d, f.quantum = some d → ConstantAt b 9 (some d)) ∧ (f.quantum = none → numberAt b 9 7 = 0) ∧
    numberAt b 16 1 = codeNumber Direction.code f.direction ∧
    (f.threshold.getD 0 < 65536 → numberAt b 17 2 = f.threshold.getD 0)) ∧
  (∀ tag : Half,
    let b := draftRecord { tag := tag, body := .switch }
    b.length = 3 ∧ numberAt b 0 1 = 3 ∧ numberAt b 1 2 = tag.toNat) ∧
  (∀ (tag : Half) (x : BitVec 64),
    let b := draftRecord { tag := tag, body := .checkpoint x }
    b.length = 11 ∧ numberAt b 0 1 = 4 ∧ numberAt b 1 2 = tag.toNat ∧ SetAt b 3 fun t => x.getLsbD t.val = true) ∧
  (∀ (p n : Nat) (q : QueueItem),
    let b := queueRecord p n q
    b.length = (draftRecord q.draft).length + 7 ∧ (p < 256 → numberAt b 0 1 = p) ∧ (n < 256 → numberAt b 1 1 = n) ∧
    numberAt b 2 4 = q.seq.toNat ∧ numberAt b 6 1 = q.active.toNat ∧ b.drop 7 = draftRecord q.draft) ∧
  (∀ (p n : Nat) (e : JournalEntry),
    let b := journalRecord p n e
    b.length = 35 + 16 * e.effects.length + 4 * e.folds.length ∧ (p < 256 → numberAt b 0 1 = p) ∧
    (n < 256 → numberAt b 1 1 = n) ∧ numberAt b 2 4 = e.number.toNat ∧ numberAt b 6 1 = e.source.code.toNat ∧
    numberAt b 7 1 = e.boot.isSome.toNat + 2 * e.item.isSome.toNat + 4 * e.channel.isSome.toNat +
      8 * e.outcome.isSome.toNat + 16 * e.reason.isSome.toNat + 32 * e.failingLeg.isSome.toNat +
      64 * e.checkpoint.isSome.toNat ∧
    numberAt b 8 4 = (e.boot.getD 0).toNat ∧ numberAt b 12 4 = ((e.item.map Prod.fst).getD 0).toNat ∧
    numberAt b 16 2 = ((e.item.map Prod.snd).getD 0).toNat ∧ numberAt b 18 1 = (e.channel.map Fin.val).getD 0 ∧
    numberAt b 19 1 = codeNumber ItemOutcome.code e.outcome ∧ numberAt b 20 1 = codeNumber Reason.code e.reason ∧
    (e.failingLeg.getD 0 < 256 → numberAt b 21 1 = e.failingLeg.getD 0) ∧
    numberAt b 22 2 = (e.epoch.getD 0).toNat ∧ numberAt b 24 4 = (e.generation.getD 0).toNat ∧
    numberAt b 28 1 = (e.checkpoint.map fun c => c.1.val).getD 0 ∧
    numberAt b 29 4 = ((e.checkpoint.map Prod.snd).getD 0).toNat ∧
    (e.effects.length < 256 → numberAt b 33 1 = e.effects.length) ∧
    (e.folds.length < 256 → numberAt b 34 1 = e.folds.length) ∧
    (∀ i x, e.effects[i]? = some x → EffectAt b (35 + 16 * i) x) ∧
    (∀ i x, e.folds[i]? = some x →
      let at_ := 35 + 16 * e.effects.length + 4 * i
      numberAt b at_ 1 = x.channel.val ∧ (x.count < 65536 → numberAt b (at_ + 1) 2 = x.count) ∧
      numberAt b (at_ + 3) 1 = x.overrun.toNat)) ∧
  (∀ (i : Fin 4) (p : Nat) (x : Slot) (c : Capture),
    let b := checkpointRecord i p x c
    b.length = 24 + 16 * min 8 (c.entries.length - 8 * p) ∧ numberAt b 0 1 = i.val ∧
    numberAt b 1 1 = x.pinned.toNat + 2 * x.inFlight.toNat ∧ numberAt b 2 4 = c.number.toNat ∧
    numberAt b 6 4 = c.completion.toNat ∧ numberAt b 10 4 = c.boot.toNat ∧ numberAt b 14 2 = c.epoch.toNat ∧
    numberAt b 16 4 = c.generation.toNat ∧
    (c.entries.length ≤ 64 → p < 256 → numberAt b 20 1 = c.entries.length ∧ numberAt b 21 1 = p ∧
      numberAt b 22 1 = max 1 ((c.entries.length + 7) / 8)) ∧
    numberAt b 23 1 = min 8 (c.entries.length - 8 * p) ∧
    ∀ k e, k < 8 → c.entries[8 * p + k]? = some e → CaptureEntryAt b (24 + 16 * k) e) ∧
  (∀ r : Report,
    let b := reportRecord r
    b.length = 20 ∧ numberAt b 0 4 = r.boot.toNat ∧ numberAt b 4 1 = r.action.code.toNat ∧
    (∀ n, r.action = .rolledForward n → numberAt b 6 4 = n.toNat ∧
      numberAt b 5 1 = 1 + 2 * r.constantsLost.toNat + 4 * r.channelsLost.toNat + 8 * r.nvFault.toNat) ∧
    ((∀ n, r.action ≠ .rolledForward n) → numberAt b 6 4 = 0 ∧
      numberAt b 5 1 = 2 * r.constantsLost.toNat + 4 * r.channelsLost.toNat + 8 * r.nvFault.toNat) ∧
    SetAt b 10 (· ∈ r.faulted) ∧
    (∀ i : Fin 8, (b.getD 18 0#8).getLsbD i.val = true ↔ ∃ j ∈ r.emptied, j.val = i.val) ∧
    (r.damaged < 256 → numberAt b 19 1 = r.damaged)) ∧
  [TotState.unused, .active, .faulted].map TotState.code = [0, 1, 2] ∧
  [Kind.monotonic, .resettable, .balance].map Kind.code = [0, 1, 2] ∧
  [Rounding.halfUp, .halfEven, .truncate, .carry].map Rounding.code = [0, 1, 2, 3] ∧
  [Policy.saturate, .wrap, .reject].map Policy.code = [0, 1, 2] ∧
  [EdgeSelect.rising, .falling, .both].map EdgeSelect.code = [0, 1, 2] ∧
  [Direction.add, .subtract].map Direction.code = [0, 1] ∧
  [ChannelState.disabled, .idle, .counting, .draining, .faulted].map ChannelState.code = [0, 1, 2, 3, 4] ∧
  [LegOp.add, .subtract, .set, .clear].map LegOp.code = [0, 1, 2, 3] ∧
  [Relation.lt, .le, .gt, .ge, .eq, .ne].map Relation.code = [0, 1, 2, 3, 4, 5] ∧
  [GuardMode.skip, .require].map GuardMode.code = [0, 1] ∧
  [SourceKind.posting, .configureTotaliser, .configureChannel, .switch, .checkpoint, .fold, .emergencyFold,
    .damaged].map SourceKind.code = [0, 1, 2, 3, 4, 5, 6, 7] ∧
  [ItemOutcome.applied, .rejected].map ItemOutcome.code = [0, 1] ∧
  [Reason.epochMismatch, .notActive, .badConstant, .guardFailed, .kind, .direction, .limit, .protected_, .badConfig,
    .outOfLimits, .bound, .channelBusy, .noSlot].map Reason.code = [1, 2, 3, 4, 5, 6, 7, 8, 9, 10, 11, 12, 13] ∧
  [Mark.none, .saturated, .wrapped, .skipped].map Mark.code = [0, 1, 2, 3] ∧
  (∀ n, [StartupAction.formatted, .clean, .rolledForward n, .intentDiscarded].map StartupAction.code = [0, 1, 2, 3])

/-! ### The lines, the resets and the supply (Chapters 10 and 11) -/

/-- R194, R170, R171: a taken level of CFGEN or PFAIL is shown; a PFAIL assertion taken while the engine is
PERSISTING only marks it, cancelling a deferred SOFT_RESET; with no flight and no count, or in HALTED, it ends in
POWERDOWN at once; during STARTING, in POWERDOWN and after a first one the level alone changes. -/
def Obligations.LinesTaken : Prop :=
  (∀ (active : Bool) (s : State), s.powered = true →
    exec (.cfgenChange active) s = .next { s with cfgen := active }) ∧
  (∀ s : State, s.powered = true →
    (s.startup = some .waiting → exec .pfailDeassertion s = .next
      { s with pfail := false, startup := some (.writing (planStartup s.nv)) }) ∧
    (s.startup ≠ some .waiting → exec .pfailDeassertion s = .next { s with pfail := false })) ∧
  (∀ s : State, s.powered = true → s.pfail = false →
    (s.device = .starting ∨ s.device = .powerdown ∨ s.pfTaken = true →
      exec .pfailAssertion s = .next { s with pfail := true }) ∧
    (s.device = .ready → s.pfTaken = false → s.engine.state = .persisting →
      exec .pfailAssertion s = .next
        ({ s with
          pfail := true
          pfTaken := true
          engine := { s.engine with deferredReset := false } }.raised .pfail)) ∧
    (s.pfTaken = false →
      s.device = .halted ∨ (s.device = .ready ∧ s.engine.state ≠ .persisting ∧
        ((∀ c : Fin 8, s.channels[c].run.unfolded = 0) ∨ 32 ≤ s.journal.entries.length)) →
      exec .pfailAssertion s = .next
        ({ s with
          pfail := true
          pfTaken := true
          device := .powerdown
          engine := { s.engine with deferredReset := false, state := .stopped } }.raised .pfail)))

/-! ### The engine (Chapter 6) -/

/-- R90, R92: with nothing offered nothing is taken; the queue head is taken when it alone is offered or after four
folds, whatever it holds; and otherwise a fold is, of the first channel with a pending request after the one served
last. -/
def Obligations.TakeChooses : Prop :=
  ∀ s : State, s.EngineFree →
    ((∀ q, ¬s.Offers q) → (∀ c : Fin 8, s.channels[c].run.request = false) → exec .take s = .next s) ∧
    (∀ q, s.Offers q → (∀ c : Fin 8, s.channels[c].run.request = false) ∨ 4 ≤ s.engine.fairness →
      ∃ t, exec .take s = .next t ∧
        t.engine.inFlight.map InFlight.item = some (.queued { q with active := true })) ∧
    ((∃ c : Fin 8, s.channels[c].run.request = true) → (∀ q, ¬s.Offers q) ∨ s.engine.fairness < 4 →
      ∃ t c, exec .take s = .next t ∧ t.engine.inFlight.map InFlight.item = some (.fold c) ∧ s.FirstInOrder c)

/-- R89, R78, R91, R93, R104, R137, R155: no take while the engine is not free; the take of the queue head makes it
ACTIVE, puts its evaluation in flight, begins the commit, sets the fairness count to 0, and marks the channel of an
APPLIED CONFIGURE_CHANNEL and the slot of a CHECKPOINT. -/
def Obligations.HeadTaken : Prop :=
  (∀ s : State, ¬s.EngineFree → exec .take s = .next s) ∧
  (∀ (s : State) (q : QueueItem) (rest : List QueueItem), s.EngineFree → s.queue.items = q :: rest →
    q.active = false → (∀ c : Fin 8, s.channels[c].run.request = false) ∨ 4 ≤ s.engine.fairness →
    let p := prepareItem s q
    exec .take s = .next
      { s with
        queue := { s.queue with items := { q with active := true } :: rest }
        engine := { s.engine with
          state := .persisting
          inFlight := some { item := .queued { q with active := true }, prepared := p }
          fairness := 0 }
        commit := some (s.firstAttempt p)
        channels := (match p.channelConfig with
          | some (c, _) => s.channels.set c
              { config := s.channels[c].config, run := { s.channels[c].run with configInFlight := true } }
          | none => s.channels)
        checkpoints := (match p.capture with
          | some (i, _) => { s.checkpoints with
              slots := s.checkpoints.slots.set i { s.checkpoints.slots[i] with inFlight := true } }
          | none => s.checkpoints) })

/-- R91 to R93, R129, R130: the take of a FOLD: the channel hands over its count, the fairness count rises while a
head waits, the channel becomes the one served last; a target that is not ACTIVE rejects the fold, and otherwise the
one change of n times the quantum, with the direction's sign, makes its outcome: the fold's pulses are placed exactly
when it is APPLIED, with AT_UPPER or AT_LOWER marked as R34 gives, and REFUSED where a check refused it. -/
def Obligations.FoldTaken : Prop :=
  ∀ (s : State) (c : Fin 8), s.EngineFree → s.FirstInOrder c →
    let r := s.channels[c].run
    let g := s.channels[c].config
    let p := prepareFold s c
    let data : FoldRecord := { channel := c, count := r.unfolded, overrun := r.overrun }
    ((∀ q, ¬s.Offers q) ∨ s.engine.fairness < 4 →
      ∃ fairness, ((∃ q, s.Offers q) → fairness = s.engine.fairness + 1) ∧
        ((∀ q, ¬s.Offers q) → fairness = 0) ∧
        exec .take s = .next
          { s with
            channels := s.channels.set c { config := g, run := r.handedOver }
            engine := { s.engine with
              state := .persisting
              inFlight := some { item := .fold c, prepared := p }
              fairness := fairness
              lastServed := c }
            commit := some (s.firstAttempt p) }) ∧
    p.entry.folds = [data] ∧
    (s.totals[g.target].data.state ≠ .active →
      p.entry.outcome = some .rejected ∧ p.entry.reason = some .notActive ∧ p.entry.effects = [] ∧
      p.records = [] ∧ p.marks = [] ∧ p.folds = [{ data := data, placed := false }]) ∧
    (s.totals[g.target].data.state = .active →
      (∀ reason, applyChange s.totals[g.target].data (.delta (g.foldDelta r.unfolded)) = .error reason →
        p.entry.outcome = some .rejected ∧ p.entry.reason = some reason ∧ p.entry.effects = [] ∧
        p.records = [] ∧ p.marks = [(g.target, .refused)] ∧ p.folds = [{ data := data, placed := false }]) ∧
      (∀ a, applyChange s.totals[g.target].data (.delta (g.foldDelta r.unfolded)) = .ok a →
        p.entry.outcome = some .applied ∧ p.entry.reason = none ∧
        p.entry.effects =
          [{ target := g.target, value := a.value, residue := a.residue,
             scale := s.totals[g.target].data.scale, mark := a.mark }] ∧
        p.records = [(g.target, { s.totals[g.target].data with
          value := a.value, residue := a.residue, revision := s.journal.counter })] ∧
        (∀ m, m ∈ p.marks ↔ a.MarksOn g.target m) ∧ p.folds = [{ data := data, placed := true }]))

/-! ### Evaluation (Chapters 1, 2 and 6) -/

/-- R7, R8: TRUNCATE keeps the greatest magnitude not above the amount's, HALF_UP goes to the nearest unit with a
half away from zero, HALF_EVEN to the nearest with a half to the even one, and the sign is never reversed. -/
def Obligations.RoundedAmounts : Prop :=
  ∀ (x : Dec) (t : Nat),
    let m : ℚ := |x.number| * 10 ^ t
    (∀ mode, (0 ≤ x.value → 0 ≤ x.align mode t) ∧ (x.value < 0 → x.align mode t ≤ 0)) ∧
    (((x.align .truncate t).natAbs : ℚ) ≤ m ∧ m < (x.align .truncate t).natAbs + 1) ∧
    (((x.align .halfUp t).natAbs : ℚ) - 1 / 2 ≤ m ∧ m < (x.align .halfUp t).natAbs + 1 / 2) ∧
    (((x.align .halfEven t).natAbs : ℚ) - 1 / 2 ≤ m ∧ m ≤ (x.align .halfEven t).natAbs + 1 / 2 ∧
      (m = (x.align .halfEven t).natAbs - 1 / 2 ∨ m = (x.align .halfEven t).natAbs + 1 / 2 →
        (x.align .halfEven t).natAbs % 2 = 0))

/-- R9, R10, R28: under CARRY a delta of +0 or more adds to the value and the residue together, exactly, what it
holds down to the residue's last digit, and the residue stays below one unit. -/
def Obligations.CarryKeepsFractions : Prop :=
  ∀ (r : Record) (d : Dec), r.rounding = .carry → 0 ≤ d.value → r.residue < 100000000 →
    (candidate r (.delta d)).2 < 100000000 ∧
    (candidate r (.delta d)).1 * 100000000 + (candidate r (.delta d)).2 =
      r.value * 100000000 + r.residue + d.value * 10 ^ (r.scale + 8) / 10 ^ d.scale

/-- R11: exact alignment gives the same number at the target scale; it fails exactly when widening makes more than
18 digits or narrowing loses a digit that is not 0. -/
def Obligations.ExactAlignment : Prop :=
  ∀ (x : Dec) (t : Nat),
    (∀ v, x.alignExact t = some v → v * 10 ^ x.scale = x.value * 10 ^ t) ∧
    (x.alignExact t = none ↔
      (x.scale ≤ t ∧ 10 ^ 18 ≤ x.value.natAbs * 10 ^ (t - x.scale)) ∨
      (t < x.scale ∧ x.value.natAbs % 10 ^ (x.scale - t) ≠ 0))

/-- R12: a guard's relation compares the two numbers exactly, the totaliser's value on the left and the threshold on
the right; the residue takes no part. -/
def Obligations.ComparisonExact : Prop :=
  (∀ x y : Dec,
    (Relation.lt.holds x y = true ↔ x.number < y.number) ∧ (Relation.le.holds x y = true ↔ x.number ≤ y.number) ∧
    (Relation.gt.holds x y = true ↔ x.number > y.number) ∧ (Relation.ge.holds x y = true ↔ x.number ≥ y.number) ∧
    (Relation.eq.holds x y = true ↔ x.number = y.number) ∧
    (Relation.ne.holds x y = true ↔ x.number ≠ y.number)) ∧
  (∀ (bank : Bank) (work : Working) (leg : Leg) (g : Guard) (threshold : Dec), leg.guard = some g →
    bank[g.threshold] = some threshold →
    guardHolds bank work leg =
      g.relation.holds { value := work[g.totaliser].value, scale := work[g.totaliser].scale } threshold)

/-- R26 to R32: the KIND check, the DIRECTION check and the bounds, in that order, on any change offered to any
record; the candidate of SET and CLEAR, and of a delta where the rounding is not CARRY (CarryKeepsFractions says that
of CARRY); on a lawful record that is not BALANCE an admitted change never falls below the lower bound. -/
def Obligations.ChangeChecked : Prop :=
  ∀ (r : Record) (c : Change),
    let v := (candidate r c).1
    let w := (candidate r c).2
    let upper : Int := r.upper.getD 999999999999999999
    let lower : Int := r.lower.getD (if r.kind = .balance then -999999999999999999 else 0)
    let badKind := (r.kind ≠ .balance ∧ ∃ d, c = .set d) ∨ (r.kind = .monotonic ∧ c = .clear)
    let badDirection := r.kind ≠ .balance ∧ ∃ d : Dec, c = .delta d ∧ d.value < 0
    (∀ d, c = .delta d → r.rounding ≠ .carry → v = r.value + d.align r.rounding r.scale ∧ w = 0) ∧
    (∀ d, c = .set d → v = d.align r.rounding r.scale ∧ w = 0) ∧
    (c = .clear → v = 0 ∧ w = 0) ∧
    (badKind → applyChange r c = .error .kind) ∧
    (¬badKind → badDirection → applyChange r c = .error .direction) ∧
    (¬badKind → ¬badDirection →
      (lower ≤ v → v ≤ upper →
        applyChange r c = .ok { value := v, residue := w, mark := .none, clamp := .none }) ∧
      (r.policy = .reject → v < lower ∨ upper < v → applyChange r c = .error .limit) ∧
      (r.policy = .saturate → upper < v →
        applyChange r c = .ok { value := upper, residue := 0, mark := .saturated, clamp := .upper }) ∧
      (r.policy = .saturate → v < lower → v ≤ upper →
        applyChange r c = .ok { value := lower, residue := 0, mark := .saturated, clamp := .lower }) ∧
      (r.policy = .wrap → r.upper = none → upper < v →
        applyChange r c = .ok
          { value := v % 1000000000000000000, residue := w, mark := .wrapped, clamp := .none }) ∧
      (r.Lawful → r.kind ≠ .balance → lower ≤ v))

/-- R98 to R101: a leg is tested in the fixed order: its records ACTIVE, its constants valid, its guard, and then the
change that its operation, source and multiplier make. -/
def Obligations.LegTestedInOrder : Prop :=
  ∀ (bank : Bank) (mode : GuardMode) (work : Working) (leg : Leg),
    let inactive := work[leg.target].state ≠ .active ∨
      (∃ t, leg.source = .totaliser t ∧ work[t].state ≠ .active) ∨
      (∃ g, leg.guard = some g ∧ work[g.totaliser].state ≠ .active)
    let invalid := (∃ k, leg.source = .constant k ∧ bank[k] = none) ∨
      (∃ m, leg.multiplier = some m ∧ bank[m] = none) ∨ (∃ g, leg.guard = some g ∧ bank[g.threshold] = none)
    let held := ∀ g, leg.guard = some g → ∀ y, bank[g.threshold] = some y →
      g.relation.holds { value := work[g.totaliser].value, scale := work[g.totaliser].scale } y = true
    (inactive → evalLeg bank mode work leg = .error .notActive) ∧
    (¬inactive → invalid → evalLeg bank mode work leg = .error .badConstant) ∧
    (¬inactive → ¬invalid → ¬held →
      (mode = .require → evalLeg bank mode work leg = .error .guardFailed) ∧
      (mode = .skip → evalLeg bank mode work leg = .ok
        { effect := { target := leg.target, value := work[leg.target].value,
                      residue := work[leg.target].residue, scale := work[leg.target].scale, mark := .skipped }
          marks := [] })) ∧
    (¬inactive → ¬invalid → held → (leg.source = .none → leg.op = .clear) →
      ∀ x : Dec, (∀ d, leg.source = .immediate d → x = d) → (∀ k, leg.source = .constant k → bank[k] = some x) →
        (∀ t, leg.source = .totaliser t → x = { value := work[t].value, scale := work[t].scale }) →
        ∀ y : Dec, (leg.multiplier = none → y = x) →
          (∀ m z, leg.multiplier = some m → bank[m] = some z →
            y = { value := x.value * z.value, scale := x.scale + z.scale }) →
          let change : Change := match leg.op with
            | .add => .delta y
            | .subtract => .delta { y with value := -y.value }
            | .set => .set y
            | .clear => .clear
          (∀ reason, applyChange work[leg.target] change = .error reason →
            evalLeg bank mode work leg = .error reason) ∧
          (∀ a, applyChange work[leg.target] change = .ok a →
            ∃ marks, evalLeg bank mode work leg = .ok
              { effect := { target := leg.target, value := a.value, residue := a.residue,
                            scale := work[leg.target].scale, mark := a.mark }
                marks := marks } ∧
              (∀ m, m ∈ marks ↔ (m = (leg.target, .atUpper) ∧ (a.mark = .wrapped ∨ a.clamp = .upper)) ∨
                (m = (leg.target, .atLower) ∧ a.mark ≠ .wrapped ∧ a.clamp = .lower))))

/-- R95, R96, R102, R103: a posting is refused by its epoch at the lowest leg that names a constant. Otherwise each leg
is evaluated on the working copies that the legs before it leave. When every leg passes, it is APPLIED, with the effect
of each leg in leg order and the marks of its legs, and each target that has an effect that is not SKIPPED is given the
value and residue of the last, with the completion number as revision. The first leg that fails rejects it whole, with
that leg's reason and index, with no effect and no record, and REFUSED is marked on that leg's target where its change
was refused. -/
def Obligations.PostingAllOrNothing : Prop :=
  ∀ (s : State) (q : QueueItem) (expected : Half) (mode : GuardMode) (legs : List Leg) (w : Nat → Working),
    q.draft.body = .posting expected mode legs → s.LegsWork mode legs w →
    let p := prepareItem s q
    let names (l : Leg) := (∃ k, l.source = .constant k) ∨ l.multiplier ≠ none ∨ l.guard ≠ none
    let passes (i : Nat) (l : Leg) (x : LegResult) :=
      legs[i]? = some l ∧ evalLeg s.constants.active mode (w i) l = .ok x
    (expected ≠ s.constants.epoch → ∀ before l after, legs = before ++ l :: after → (∀ x ∈ before, ¬names x) →
      names l →
      p.entry.outcome = some .rejected ∧ p.entry.reason = some .epochMismatch ∧
      p.entry.failingLeg = some before.length ∧ p.entry.effects = [] ∧ p.records = [] ∧ p.marks = []) ∧
    (expected = s.constants.epoch ∨ (∀ l ∈ legs, ¬names l) →
      ((∀ i < legs.length, ∃ l x, passes i l x) →
        p.entry.outcome = some .applied ∧ p.entry.reason = none ∧ p.entry.failingLeg = none ∧
        p.entry.effects.length = legs.length ∧
        (∀ i l x, passes i l x → p.entry.effects[i]? = some x.effect) ∧
        (∀ m, m ∈ p.marks ↔ ∃ i l x, passes i l x ∧ m ∈ x.marks) ∧
        (p.records.map Prod.fst).Nodup ∧
        ∀ (t : Fin 64) (r : Record), (t, r) ∈ p.records ↔ ∃ e, lastEffect p.entry.effects t = some e ∧
          r = { s.totals[t].data with
            value := e.value, residue := e.residue, revision := s.journal.counter }) ∧
      (∀ i l reason, legs[i]? = some l → (∀ j < i, ∃ k x, passes j k x) →
        evalLeg s.constants.active mode (w i) l = .error reason →
        p.entry.outcome = some .rejected ∧ p.entry.reason = some reason ∧ p.entry.failingLeg = some i ∧
        p.entry.effects = [] ∧ p.records = [] ∧ ∀ m, m ∈ p.marks ↔ reason.MarksOn l.target m))

/-- R38 to R42, R143: a CONFIGURE_TOTALISER is refused without CFGEN; with STATE UNUSED it empties the record unless an
enabled channel is bound to it; otherwise it is rejected with BAD_CONFIG when it has no resulting record or one of R40's
grounds holds of it, with OUT_OF_LIMITS when its value lies outside its bounds, and gives exactly the resulting record
when neither is so. Its one effect stands at the scale its totaliser had at the take, with the new value where that has
an exact form at that scale, and otherwise with a free value of at most 18 digits (log 15). -/
def Obligations.TotaliserConfigured : Prop :=
  ∀ (s : State) (q : QueueItem) (i : Fin 64) (f : TotFields), q.draft.body = .configureTotaliser i f →
    let p := prepareItem s q
    let old := s.totals[i].data
    let gives (n : Record) := p.entry.outcome = some .applied ∧ p.entry.reason = none ∧
      (∃ e, p.entry.effects = [e] ∧ e.target = i ∧ e.residue = n.residue ∧ e.scale = old.scale ∧ e.mark = .none ∧
        (∀ v, ({ value := n.value, scale := n.scale } : Dec).alignExact old.scale = some v → e.value = v) ∧
        (({ value := n.value, scale := n.scale } : Dec).alignExact old.scale = none → e.value.natAbs < 10 ^ 18)) ∧
      p.records = [(i, { n with revision := s.journal.counter })] ∧ p.marks = [] ∧
      p.control.generation = s.generation + 1
    let rejects (reason : Reason) := p.entry.outcome = some .rejected ∧ p.entry.reason = some reason ∧
      p.entry.effects = [] ∧ p.records = [] ∧ p.marks = [] ∧ p.clearFlags = none ∧
      p.control.generation = s.generation
    (s.cfgen = false → rejects .protected_) ∧
    (s.cfgen = true → f.active = some false →
      ((∃ c : Fin 8, s.channels[c].config.enabled = true ∧ s.channels[c].config.target = i) → rejects .bound) ∧
      ((∀ c : Fin 8, s.channels[c].config.enabled = true → s.channels[c].config.target ≠ i) →
        gives Record.unused ∧ p.clearFlags = some i)) ∧
    (s.cfgen = true → f.active ≠ some false →
      (∀ n, f.Results old n → n.revision = old.revision → f.Suits old n → n.Within →
        gives n ∧ p.clearFlags = none) ∧
      ((∀ n, f.Results old n → ¬f.Suits old n) → rejects .badConfig) ∧
      (∀ n, f.Results old n → f.Suits old n → ¬n.Within → rejects .outOfLimits) ∧
      (∀ n, f.Results old n → f.Suits old n → n.Within → old.Lawful → Body.LimitsFit (.configureTotaliser i f) → n.Lawful))

/-- R135 to R137: a CONFIGURE_CHANNEL is refused without CFGEN, while its channel is not free, and where it would
enable the channel on a totaliser that is not ACTIVE, in that order; otherwise it gives each carried field and keeps
the others, and the runtime record changes by the passage from old to new enabled value. (That a
disabling keeps the last accepted edge is the model's choice: log 33.) -/
def Obligations.ChannelConfigured : Prop :=
  (∀ (s : State) (q : QueueItem) (c : Fin 8) (f : ChannelFields), q.draft.body = .configureChannel c f →
    let p := prepareItem s q
    let g := s.channels[c].config
    let r := s.channels[c].run
    let n : ChannelConfig :=
      { enabled := f.enabled.getD g.enabled, edge := f.edge.getD g.edge, spacing := f.spacing.getD g.spacing,
        target := f.target.getD g.target, quantum := f.quantum.getD g.quantum,
        direction := f.direction.getD g.direction, threshold := f.threshold.getD g.threshold }
    let free := r.state = .disabled ∨ (r.state = .idle ∧ r.unfolded = 0 ∧ r.inFlight = none)
    let rejects (reason : Reason) := p.entry.outcome = some .rejected ∧ p.entry.reason = some reason ∧
      p.channelConfig = none ∧ p.control.generation = s.generation
    (s.cfgen = false → rejects .protected_) ∧
    (s.cfgen = true → ¬free → rejects .channelBusy) ∧
    (s.cfgen = true → free → n.enabled = true → s.totals[n.target].data.state ≠ .active → rejects .notActive) ∧
    (s.cfgen = true → free → n.enabled = false ∨ s.totals[n.target].data.state = .active →
      p.entry.outcome = some .applied ∧ p.channelConfig = some (c, n) ∧ p.records = [] ∧
      p.control.generation = s.generation + 1)) ∧
  (∀ r : ChannelRun,
    (r.state = .disabled → r.reconfigured true =
      { state := .idle, gateOpen := false, unfolded := 0, stray := 0, request := false, inFlight := none,
        overrun := false, configInFlight := false, lastEdge := none }) ∧
    (r.state = .disabled → r.reconfigured false = { r with configInFlight := false }) ∧
    (r.state = .idle → r.reconfigured true = { r with configInFlight := false }) ∧
    (r.state = .idle → r.reconfigured false =
      { r with
        state := .disabled, gateOpen := false, unfolded := 0, stray := 0, overrun := false,
        configInFlight := false }))

/-- R52, R155, R156: a SWITCH carries the pending bank and the epoch plus one; a CHECKPOINT fills the lowest EMPTY
slot, or else an unpinned one whose capture lies furthest behind the counter, or is rejected with NO_SLOT; its capture
lists the selected records that are not UNUSED in ascending order. -/
def Obligations.SwitchAndCheckpointEvaluated : Prop :=
  ∀ (s : State) (q : QueueItem),
    let p := prepareItem s q
    let slots := s.checkpoints.slots
    let behind (x : Capture) := (s.checkpoints.counter - x.number).toNat
    (q.draft.body = .switch → p.bank = some s.constants.pending ∧ p.control.epoch = s.constants.epoch + 1 ∧
      p.entry.outcome = some .applied ∧ p.entry.epoch = some (s.constants.epoch + 1) ∧ p.records = []) ∧
    (∀ selection, q.draft.body = .checkpoint selection →
      ((∀ i : Fin 4, slots[i].content.isSome = true ∧ slots[i].pinned = true) →
        p.entry.outcome = some .rejected ∧ p.entry.reason = some .noSlot ∧ p.entry.effects = [] ∧
        p.entry.checkpoint = none ∧ p.capture = none ∧ p.control.checkpoint = s.checkpoints.counter) ∧
      (¬(∀ i : Fin 4, slots[i].content.isSome = true ∧ slots[i].pinned = true) → ∃ i x,
        p.capture = some (i, x) ∧ p.entry.outcome = some .applied ∧
        p.entry.checkpoint = some (i, s.checkpoints.counter) ∧
        p.control.checkpoint = s.checkpoints.counter + 1 ∧
        ((slots[i].content = none ∧ ∀ j : Fin 4, j < i → slots[j].content.isSome = true) ∨
          ((∀ j : Fin 4, slots[j].content.isSome = true) ∧ slots[i].pinned = false ∧
            ∀ (j : Fin 4) (a b : Capture), slots[j].pinned = false → slots[i].content = some a →
              slots[j].content = some b → behind b ≤ behind a)) ∧
        x.number = s.checkpoints.counter ∧ x.completion = s.journal.counter ∧ x.boot = s.boot ∧
        x.epoch = s.constants.epoch ∧ x.generation = s.generation ∧
        x.entries.Pairwise (fun a b => a.index < b.index) ∧
        ∀ e : CaptureEntry, e ∈ x.entries ↔
          selection.getLsbD e.index.val = true ∧ s.totals[e.index].data.state ≠ .unused ∧
          e.state = s.totals[e.index].data.state ∧ e.value = s.totals[e.index].data.value ∧
          e.scale = s.totals[e.index].data.scale ∧ e.residue = s.totals[e.index].data.residue))

/-- R139, R171, R172, R34: a PFAIL assertion met with the engine IDLE or HELD and some count above 0 takes the
EMERGENCY_FOLD: every such channel, and no other, hands over its count, in ascending order. Each offers its one change
to its target's working copy as the channels before left it, and is placed exactly when that passes. With one placed
the item is APPLIED, with one effect for each of them, SKIPPED for those refused, and each target that has an effect
that is not SKIPPED takes the last, with the completion number as revision; with none placed it is REJECTED with the
reason of the lowest. AT_UPPER and AT_LOWER are marked from the placed changes and REFUSED for those refused with
DIRECTION or LIMIT, whatever the outcome. -/
def Obligations.EmergencyFoldTaken : Prop :=
  (∀ s : State, s.powered = true → s.pfail = false → s.device = .ready → s.pfTaken = false →
    s.engine.state ≠ .persisting → s.journal.entries.length ≤ 31 → (∃ c : Fin 8, 0 < s.channels[c].run.unfolded) →
    exec .pfailAssertion s = .next
      { s.raised .pfail with
        pfail := true, pfTaken := true, engine := { s.engine with deferredReset := false } }.emergencyTaken) ∧
  (∀ (s : State) (w : Nat → Working),
    let covered := (List.finRange 8).filter fun c => decide (0 < s.channels[c].run.unfolded)
    let p := prepareEmergency s
    let yields (i : Nat) (c : Fin 8) :=
      foldYields (w i)[s.channels[c].config.target] s.channels[c].config s.channels[c].run.unfolded
    covered ≠ [] → s.FoldsWork covered w →
    p.entry.number = s.journal.counter ∧ p.entry.source = .emergencyFold ∧
    p.entry.epoch = some s.constants.epoch ∧ p.entry.generation = some s.generation ∧
    p.entry.folds = covered.map (fun c =>
      { channel := c, count := s.channels[c].run.unfolded, overrun := s.channels[c].run.overrun }) ∧
    p.folds.map FlightFold.data = p.entry.folds ∧
    (∀ i c, covered[i]? = some c →
      let t := s.channels[c].config.target
      (∀ a, yields i c = .ok a → (p.folds.map FlightFold.placed)[i]? = some true ∧
        p.entry.effects[i]? = some
          { target := t, value := a.value, residue := a.residue, scale := (w i)[t].scale, mark := a.mark }) ∧
      (∀ reason, yields i c = .error reason → (p.folds.map FlightFold.placed)[i]? = some false ∧
        (p.entry.outcome = some .applied → p.entry.effects[i]? = some
          { target := t, value := (w i)[t].value, residue := (w i)[t].residue, scale := (w i)[t].scale,
            mark := .skipped }))) ∧
    ((∃ f ∈ p.folds, f.placed = true) →
      p.entry.outcome = some .applied ∧ p.entry.reason = none ∧ p.entry.effects.length = covered.length ∧
      (p.records.map Prod.fst).Nodup ∧
      ∀ (t : Fin 64) (r : Record), (t, r) ∈ p.records ↔ ∃ e, lastEffect p.entry.effects t = some e ∧
        r = { s.totals[t].data with
          value := e.value, residue := e.residue, revision := s.journal.counter }) ∧
    ((∀ f ∈ p.folds, f.placed = false) →
      p.entry.outcome = some .rejected ∧ p.entry.effects = [] ∧ p.records = [] ∧
      ∀ c reason, covered.head? = some c → yields 0 c = .error reason → p.entry.reason = some reason) ∧
    (∀ m, m ∈ p.marks ↔ ∃ i c, covered[i]? = some c ∧
      ((∃ a, yields i c = .ok a ∧ a.MarksOn s.channels[c].config.target m) ∨
        ∃ reason, yields i c = .error reason ∧ reason.MarksOn s.channels[c].config.target m)))

/-! ### The commit and the publication (Chapters 6 and 10) -/

/-- R166, R167, R106, R114: a write read back as written leads to the next step, each table write standing in its
area; a failure or timeout leaves the area under way failing its check (log 12) and begins a second attempt, and the
second raises NV_FAULT and ends in HALTED, in POWERDOWN after a PFAIL assertion, or in a deferred SOFT_RESET, which
leaves the RAM state of STARTING (log 6) and the port as it stood (log 21). That each event is one write, the intent's writing one of them, and that a
failure is taken at every step, is the model's grain (log 13). A cut or failure leaves the area under way failing its
check, or holding its content where it was written whole, which the intent of step 1 never is (R168, log 11), and
leaves every other area as it was. -/
def Obligations.CommitSteps : Prop :=
  (∀ (nv : NvArray) (written : Bool),
    let left {α : Type} (n : Writer) (x : α) : Area α := if written = true then .good n x else .bad
    (∀ (i : Fin 64) (c : CopyId) (n : Writer) (r : Record), nv.writeTable written (.home i c n r) =
      { nv with home := nv.home.set i (nv.home[i].set c (left n r)) }) ∧
    (∀ e : JournalEntry, nv.writeTable written (.ring e) =
      { nv with ring := nv.ring.set (ringPosition e.number) (left (.number e.number) e) }) ∧
    (∀ (c : CopyId) (n : Writer) (b : Bank), nv.writeTable written (.active c n b) =
      { nv with active := nv.active.set c (left n b) }) ∧
    (∀ (c : CopyId) (n : Writer) (x : Vector ChannelConfig 8), nv.writeTable written (.channels c n x) =
      { nv with channels := nv.channels.set c (left n x) }) ∧
    (∀ (i : Fin 4) (n : Writer) (x : Option Capture), nv.writeTable written (.slot i n x) =
      { nv with slots := nv.slots.set i (left n x) })) ∧
  (∀ (nv : NvArray) (c : Commit) (written : Bool),
    (c.stage = .intent → nv.breakCommit written c = { nv with intent := .bad }) ∧
    (c.stage = .verify →
      nv.breakCommit written c = { nv with intent := if written = true then .held c.intent else .bad }) ∧
    (∀ w rest, c.stage = .tables (w :: rest) →
      nv.breakCommit written c = nv.writeTable written w ∧
      (nv.breakCommit true c).Holds w ∧ (nv.breakCommit false c).FailsAt w) ∧
    (c.stage = .retire →
      let block := if written = true then Area.good (.number c.intent.control.counter) c.intent.control else .bad
      nv.breakCommit written c =
        (match c.intent.controlCopy with
         | .a => { nv with controlA := block }
         | .b => { nv with controlB := block }))) ∧
  ∀ (s : State) (c : Commit), s.powered = true → s.resetPin = false → s.commit = some c →
    (c.stage = .intent → exec .commitReadBack s = .next { s with commit := some { c with stage := .verify } }) ∧
    (c.stage = .verify → c.intent.tables ≠ [] → exec .commitReadBack s = .next
      { s with
        nv := { s.nv with intent := .held c.intent }
        commit := some { c with stage := .tables c.intent.tables } }) ∧
    (∀ w rest, c.stage = .tables (w :: rest) →
      (s.nv.writeTable true w).Holds w ∧
      (rest ≠ [] → exec .commitReadBack s = .next
        { s with nv := s.nv.writeTable true w, commit := some { c with stage := .tables rest } }) ∧
      (rest = [] → exec .commitReadBack s = .next
        { s with nv := s.nv.writeTable true w, commit := some { c with stage := .retire } })) ∧
    ∀ fails ∈ [Instr.attemptFailure, Instr.commitTimeout],
      (c.second = false → exec fails s = .next
        { s with
          nv := s.nv.breakCommit false c
          commit := some { c with second := true, stage := .intent } }) ∧
      (c.second = true →
        (s.pfTaken = true → exec fails s = .next
          { s.raised .nvFault with
            nv := { s.nv.breakCommit false c with intent := .bad }
            commit := none
            device := .powerdown
            engine := { s.engine with state := .stopped } }) ∧
        (s.pfTaken = false → s.engine.deferredReset = false → exec fails s = .next
          { s.raised .nvFault with
            nv := { s.nv.breakCommit false c with intent := .bad }
            commit := none
            device := .halted
            engine := { s.engine with state := .halted } }) ∧
        (s.pfTaken = false → s.engine.deferredReset = true → exec fails s = .next
          ({ s with nv := { s.nv.breakCommit false c with intent := .bad } }.restarted s.port)))

/-- R107 to R109, R33, R34, R53, R79, R83, R145, R157: the publication of a queued item, all at one event. -/
def Obligations.PublishedItem : Prop :=
  ∀ (s : State) (c : Commit) (f : InFlight) (q : QueueItem), s.AtRetire c f → f.item = .queued q →
    (f.prepared.records.map Prod.fst).Nodup → s.pfTaken = false → s.engine.deferredReset = false →
    ∃ t, exec .commitCompletion s = .next t ∧
      t = { s with
        nv := s.nv.writeControl true c.intent.controlCopy c.intent.control
        current := s.current.afterCommit c.intent
        commit := none
        totals := t.totals
        journal := { s.journal with
          counter := s.journal.counter + 1, entries := s.journal.entries ++ [f.prepared.entry] }
        queue := { s.queue with items := s.queue.items.tail, spaceWanted := false }
        constants := (match f.prepared.bank with
          | some b => { s.constants with active := b, epoch := f.prepared.control.epoch, lock := none }
          | none => s.constants)
        generation := f.prepared.control.generation
        channels := (match f.prepared.channelConfig with
          | some (k, n) => s.channels.set k { config := n, run := s.channels[k].run.reconfigured n.enabled }
          | none => s.channels)
        checkpoints := (match f.prepared.capture with
          | some (i, x) => {
              slots := s.checkpoints.slots.set i { content := some x, pinned := false, inFlight := false }
              counter := f.prepared.control.checkpoint }
          | none => s.checkpoints)
        events := t.events
        engine := { s.engine with
          state := if 30 ≤ s.journal.entries.length then .held else .idle, inFlight := none } } ∧
      TotalsGiven s.totals t.totals f.prepared ∧
      ∀ e : Event, t.latched e = true ↔ s.latched e = true ∨ e = .completion ∨
        (e = .journalFull ∧ 30 ≤ s.journal.entries.length) ∨
        (e = .queueSpace ∧ s.queue.spaceWanted = true) ∨ (e = .limit ∧ FlagRises s.totals f.prepared)

/-- R107, R131, R132, R138, R171: the publication of a FOLD. Applied, a draining channel with nothing left closes and
another may raise its next request; rejected, the pulses return, saturating at 65535 with the overrun mark, and the
channel is FAULTED with its gate as it was. After a PFAIL assertion no request is raised, and the emergency step follows
at the same event. -/
def Obligations.PublishedFold : Prop :=
  ∀ (s : State) (c : Commit) (f : InFlight) (k : Fin 8) (x : FlightFold), s.AtRetire c f → f.item = .fold k →
    f.prepared.folds = [x] → x.data.channel = k → (f.prepared.records.map Prod.fst).Nodup →
    f.prepared.bank = none → f.prepared.channelConfig = none → f.prepared.capture = none →
    s.engine.deferredReset = false →
    let r := s.channels[k].run
    let closes := x.placed = true ∧ r.state = .draining ∧ r.unfolded = 0
    let loses := x.placed = false ∧ 65535 < r.unfolded + x.data.count
    ∃ t, exec .commitCompletion s = .next (if s.pfTaken = true then t.emergencyStepped else t) ∧
      t = { s with
        nv := s.nv.writeControl true c.intent.controlCopy c.intent.control
        current := s.current.afterCommit c.intent
        commit := none
        totals := t.totals
        journal := { s.journal with
          counter := s.journal.counter + 1, entries := s.journal.entries ++ [f.prepared.entry] }
        generation := f.prepared.control.generation
        channels := s.channels.set k { config := s.channels[k].config, run := t.channels[k].run }
        events := t.events
        engine := { s.engine with
          state := if 30 ≤ s.journal.entries.length then .held else .idle, inFlight := none } } ∧
      TotalsGiven s.totals t.totals f.prepared ∧
      (closes → t.channels[k].run = { r with inFlight := none, state := .idle, gateOpen := false }) ∧
      (x.placed = true → ¬closes → t.channels[k].run =
        { r with
          inFlight := none
          request := r.request || (!s.pfTaken &&
            ((r.state == .counting && decide (s.channels[k].config.threshold ≤ r.unfolded)) ||
              (r.state == .draining && decide (0 < r.unfolded)))) }) ∧
      (x.placed = false → t.channels[k].run = { r.returned x.data with request := false, state := .faulted }) ∧
      ∀ e : Event, t.latched e = true ↔ s.latched e = true ∨ e = .completion ∨
        (e = .journalFull ∧ 30 ≤ s.journal.entries.length) ∨ (e = .limit ∧ FlagRises s.totals f.prepared) ∨
        (e = .channelClosed ∧ closes) ∨ (e = .channelFault ∧ x.placed = false) ∨ (e = .overrun ∧ loses)

/-- R173, R139, R171, R114: the publication of the EMERGENCY_FOLD stops the engine and ends in POWERDOWN, the pulses
it did not place returned; the publication of a queued item of any kind under a PFAIL assertion is the publication it
would be without one (PublishedItem), followed by the emergency step at the same event; and a publication under a
deferred SOFT_RESET is followed by the start-up that the reset begins, with the RAM values of STARTING that log 6 chose
and the port as it stood (log 21). -/
def Obligations.AfterPublication : Prop :=
  (∀ (s : State) (c : Commit) (f : InFlight), s.AtRetire c f → f.item = .emergency →
    (f.prepared.folds.map fun x => x.data.channel).Nodup → (f.prepared.records.map Prod.fst).Nodup →
    f.prepared.bank = none → f.prepared.channelConfig = none → f.prepared.capture = none →
    ∃ t, exec .commitCompletion s = .next t ∧
      t = { s with
        nv := s.nv.writeControl true c.intent.controlCopy c.intent.control
        current := s.current.afterCommit c.intent
        commit := none
        totals := t.totals
        journal := { s.journal with
          counter := s.journal.counter + 1, entries := s.journal.entries ++ [f.prepared.entry] }
        generation := f.prepared.control.generation
        channels := t.channels
        events := t.events
        device := .powerdown
        engine := { s.engine with state := .stopped, inFlight := none } } ∧
      TotalsGiven s.totals t.totals f.prepared ∧
      (∀ x ∈ f.prepared.folds, t.channels[x.data.channel] =
        { config := s.channels[x.data.channel].config
          run := if x.placed = true then { s.channels[x.data.channel].run with inFlight := none }
            else s.channels[x.data.channel].run.returned x.data }) ∧
      (∀ k : Fin 8, (∀ x ∈ f.prepared.folds, x.data.channel ≠ k) → t.channels[k] = s.channels[k]) ∧
      ∀ e : Event, t.latched e = true ↔ s.latched e = true ∨ e = .completion ∨
        (e = .journalFull ∧ 30 ≤ s.journal.entries.length) ∨ (e = .limit ∧ FlagRises s.totals f.prepared) ∨
        (e = .overrun ∧ ∃ x ∈ f.prepared.folds, x.placed = false ∧
          65535 < s.channels[x.data.channel].run.unfolded + x.data.count)) ∧
  (∀ (s : State) (c : Commit) (f : InFlight) (q : QueueItem), s.AtRetire c f → f.item = .queued q →
    s.pfTaken = true →
    ∃ u, exec .commitCompletion
        { s with pfTaken := false, engine := { s.engine with deferredReset := false } } = .next u ∧
      exec .commitCompletion s = .next
        { u with
          pfTaken := true
          engine := { u.engine with deferredReset := s.engine.deferredReset } }.emergencyStepped) ∧
  (∀ (s : State) (c : Commit) (f : InFlight), s.AtRetire c f → f.item ≠ .emergency → s.pfTaken = false →
    s.engine.deferredReset = true →
    ∃ u, exec .commitCompletion { s with engine := { s.engine with deferredReset := false } } = .next u ∧
      exec .commitCompletion s = .next (u.restarted u.port))

/-! ### Start-up and the array (Chapter 10) -/

/-- R175 to R181: a start-up write read back as written leads to the next; one that fails is made once more; after
the last, or a second failure, the tables stand loaded from the array, the boot number has advanced, READY is raised
with NV_FAULT and PFAIL where they are due, and the device state is POWERDOWN, HALTED or READY; the report lists what was
lost, and the copies loaded are current. A format that fails twice leaves R176's values in RAM. A write that fails or is
cut leaves its area failing its check and no other area changed. (The boot number that the report shows after a failure
of an earlier write is the model's reading: log 16; that no table stands loaded before the last event is its choice:
log 17; that at most 32 entries are restored is its reading: log 27.) -/
def Obligations.StartupSteps : Prop :=
  (∀ (nv : NvArray) (w : NvWrite),
    (nv.write false w).FailsAtWrite w ∧ (nv.write false w).write true w = nv.write true w) ∧
  (∀ (nv : NvArray) (j : StartupJob) (written : Bool),
    nv.breakStartup written .waiting = nv ∧
    nv.breakStartup written (.writing j) = nv.write written j.underWay ∧
    (∀ w rest, j.settle = w :: rest → j.underWay = w) ∧
    (j.settle = [] → j.underWay = .control j.copy.other { j.control with boot := j.control.boot + 1 })) ∧
  ∀ (s : State) (j : StartupJob), s.powered = true → s.resetPin = false → s.startup = some (.writing j) →
    (∀ w x rest, j.settle = w :: x :: rest → exec (.startupWriteCompletion true) s = .next
      { s with
        nv := s.nv.write true w
        startup := some (.writing { j with settle := x :: rest, retried := false }) }) ∧
    (∀ w, j.settle = [w] → exec (.startupWriteCompletion true) s = .next
      { s with
        nv := s.nv.write true w
        startup := some (.writing
          { j with settle := [], retried := false, control := j.settled, copy := j.settledCopy }) }) ∧
    (j.retried = false → exec (.startupWriteCompletion false) s = .next
      { s with nv := s.nv.write false j.underWay, startup := some (.writing { j with retried := true }) }) ∧
    (∀ w rest, j.settle = w :: rest → j.retried = true → j.action = .formatted →
      j.control = ControlBlock.formatted →
      ∃ t, exec (.startupWriteCompletion false) s = .next t ∧
        t = { s with
          nv := s.nv.write false w
          startup := none
          boot := 1
          generation := 0
          totals := Vector.replicate 64 ⟨Record.unused, false, false, false⟩
          constants :=
            { active := Vector.replicate 32 none, pending := Vector.replicate 32 none, epoch := 0, lock := none }
          channels := Vector.replicate 8 ⟨ChannelConfig.formatted, ChannelRun.fresh false⟩
          checkpoints := { slots := Vector.replicate 4 ⟨none, false, false⟩, counter := 1 }
          journal := { counter := 1, head := 1, entries := [] }
          current :=
            { control := j.copy, home := Vector.replicate 64 (.copy .a), active := .copy .a, channels := .copy .a }
          report :=
            { boot := 1, action := .formatted, faulted := [], emptied := [], damaged := 0, constantsLost := false,
              channelsLost := false, nvFault := true }
          device := t.device
          pfTaken := s.pfail
          engine := { s.engine with state := t.engine.state }
          events := t.events } ∧
        (s.pfail = true → t.device = .powerdown ∧ t.engine.state = .stopped) ∧
        (s.pfail = false → t.device = .halted ∧ t.engine.state = .halted) ∧
        (∀ e : Event, t.latched e = true ↔ s.latched e = true ∨ e = .ready ∨ e = .nvFault ∨
          (e = .pfail ∧ s.pfail = true))) ∧
    (∀ fails : Bool, (fails = false → j.settle = []) → (fails = true → j.retried = true) →
      (fails = true → j.settle ≠ [] → j.action ≠ .formatted) →
      let nv := s.nv.write (!fails) j.underWay
      let k := j.control.counter
      ∃ t, exec (.startupWriteCompletion (!fails)) s = .next t ∧
        t = { s with
          nv := nv
          startup := none
          boot := j.control.boot + 1
          generation := j.control.generation
          totals := t.totals
          constants := t.constants
          channels := t.channels
          checkpoints := { slots := t.checkpoints.slots, counter := j.control.checkpoint }
          journal := { counter := k, head := j.control.head, entries := t.journal.entries }
          current := t.current
          report := t.report
          device := t.device
          pfTaken := s.pfail
          engine := { s.engine with state := t.engine.state }
          events := t.events } ∧
        (s.pfail = true → t.device = .powerdown ∧ t.engine.state = .stopped) ∧
        (s.pfail = false →
          (fails = true → t.device = .halted ∧ t.engine.state = .halted) ∧
          (fails = false → t.device = .ready ∧
            t.engine.state = (if 31 ≤ t.journal.entries.length then .held else .idle))) ∧
        (∀ i : Fin 64, t.totals[i] =
          ⟨(nv.home[i].load k).getD Record.lost, false, false, false⟩) ∧
        t.constants =
          { active := (nv.active.load k).getD (Vector.replicate 32 none)
            pending := (nv.active.load k).getD (Vector.replicate 32 none)
            epoch := j.control.epoch
            lock := none } ∧
        (∀ c : Fin 8, t.channels[c].config =
            ((nv.channels.load k).getD (Vector.replicate 8 ChannelConfig.formatted))[c] ∧
          t.channels[c].run = ChannelRun.fresh t.channels[c].config.enabled) ∧
        (∀ i : Fin 4, t.checkpoints.slots[i].pinned = false ∧ t.checkpoints.slots[i].inFlight = false ∧
          ∀ x, t.checkpoints.slots[i].content = some x ↔
            nv.slots[i].usable k = true ∧ nv.slots[i].content = some (some x)) ∧
        t.journal.entries.length = min (k - j.control.head).toNat 32 ∧
        (∀ n, ∀ h : n < t.journal.entries.length,
          let number := j.control.head + BitVec.ofNat 32 n
          t.journal.entries[n].number = number ∧
          (∀ w e, nv.ring[ringPosition number] = .good w e → e.number = number → t.journal.entries[n] = e) ∧
          ((∀ w e, nv.ring[ringPosition number] = .good w e → e.number ≠ number) →
            t.journal.entries[n].source = .damaged)) ∧
        t.current.control = (if fails = true then j.copy else j.copy.other) ∧
        (∀ i : Fin 64, t.current.home[i] = nv.home[i].choose k) ∧
        t.current.active = nv.active.choose k ∧ t.current.channels = nv.channels.choose k ∧
        t.report.boot = j.control.boot + 1 ∧ t.report.action = j.action ∧ t.report.nvFault = fails ∧
        (∀ i : Fin 64, i ∈ t.report.faulted ↔ nv.home[i].load k = none) ∧
        t.report.faulted.Pairwise (· < ·) ∧ t.report.emptied.Pairwise (· < ·) ∧
        (∀ i : Fin 4, i ∈ t.report.emptied ↔ nv.slots[i] = .bad ∨
          ∃ w x, nv.slots[i] = .good w (some x) ∧ nv.slots[i].usable k = false) ∧
        t.report.damaged = (t.journal.entries.filter fun e => e.source == .damaged).length ∧
        (t.report.constantsLost = true ↔ nv.active.load k = none) ∧
        (t.report.channelsLost = true ↔ nv.channels.load k = none) ∧
        (∀ e : Event, t.latched e = true ↔ s.latched e = true ∨ e = .ready ∨ (e = .nvFault ∧ fails = true) ∨
          (e = .pfail ∧ s.pfail = true)))

/-- R165, R175 to R177: of every pair of copies start-up chooses a usable one, of two the one whose writer number is
nearer behind the counter, format content the furthest, and copy A of equal ones; it takes the one control block that
passes its check, chooses between two by their counters and boot numbers, and settles the intent by its number against the chosen counter; its discard overwrites exactly the
set-aside copies of the home records, the active bank and the channel configuration and the set-aside slots, and leaves
the ring and the control block as they were; its format leaves the formatted array, the ring as it was. -/
def Obligations.StartupChooses : Prop :=
  (∀ (α : Type) (k : Word) (p : Pair α),
    (p.choose k = .neither ↔ p.a.usable k = false ∧ p.b.usable k = false) ∧
    (∀ c, p.choose k = .copy c → (p.get c).usable k = true ∧
      ((p.get c.other).usable k = true → (p.get c).distance k ≤ (p.get c.other).distance k)) ∧
    (∀ w x y, p = ⟨.good w x, .good w y⟩ → p.a.usable k = true → p.choose k = .copy .a) ∧
    (∀ n m x y, p = ⟨.good (.number n) x, .good (.number m) y⟩ → p.a.usable k = true → p.b.usable k = true →
      p.choose k = (if (k - n).toNat ≤ (k - m).toNat then .copy .a else .copy .b)) ∧
    (∀ c n x y, p.get c = .good (.number n) x → p.get c.other = .good .format y → n ≠ k → n ≠ k + 1 →
      p.choose k = .copy c)) ∧
  (∀ (α : Type) (k n : Word) (x : α),
    ((Area.good (.number n) x).usable k = true ↔ n ≠ k ∧ n ≠ k + 1) ∧ (Area.good .format x).usable k = true ∧
    (Area.bad : Area α).usable k = false) ∧
  (∀ (nv : NvArray) (b : ControlBlock),
    (nv.controlA.content = some b → nv.controlB.content = none → nv.chooseControl = some (b, .a)) ∧
    (nv.controlA.content = none → nv.controlB.content = some b → nv.chooseControl = some (b, .b))) ∧
  (∀ (nv : NvArray) (a b : ControlBlock), nv.controlA.content = some a → nv.controlB.content = some b →
    (a.counter = b.counter + 1 → nv.chooseControl = some (a, .a)) ∧
    (b.counter = a.counter + 1 → nv.chooseControl = some (b, .b)) ∧
    (a.counter = b.counter → a.boot = b.boot → nv.chooseControl = some (a, .a)) ∧
    (a.counter = b.counter → a.boot = b.boot + 1 → nv.chooseControl = some (a, .a)) ∧
    (a.counter = b.counter → b.boot = a.boot + 1 → nv.chooseControl = some (b, .b))) ∧
  (∀ nv : NvArray, (nv.controlA.content = none ∧ nv.controlB.content = none →
    (planStartup nv).action = .formatted ∧ (planStartup nv).settle = formatWrites)) ∧
  (∀ (nv : NvArray) (b : ControlBlock) (c : CopyId), nv.chooseControl = some (b, c) →
    (nv.intent = .empty → (planStartup nv).action = .clean ∧ (planStartup nv).settle = []) ∧
    (nv.intent = .bad → (planStartup nv).action = .intentDiscarded) ∧
    (∀ i, nv.intent = .held i →
      (i.number = b.counter → (planStartup nv).action = .rolledForward i.number ∧
        (planStartup nv).settle = i.tables.map .table ++ [.control c.other i.control]) ∧
      (i.number ≠ b.counter → (i.number - b.counter).toNat < 2 ^ 31 →
        (planStartup nv).action = .intentDiscarded) ∧
      (2 ^ 31 ≤ (i.number - b.counter).toNat → (planStartup nv).action = .clean ∧ (planStartup nv).settle = [])) ∧
    ((planStartup nv).action = .intentDiscarded →
      let after := nv.writeAll (planStartup nv).settle
      let left {α : Type} (a : Area α) : Area α := if a.setAside b.counter = true then .bad else a
      after.intent = .empty ∧ after.controlA = nv.controlA ∧ after.controlB = nv.controlB ∧ after.ring = nv.ring ∧
      after.active = ⟨left nv.active.a, left nv.active.b⟩ ∧
      after.channels = ⟨left nv.channels.a, left nv.channels.b⟩ ∧
      (∀ i : Fin 64,
        after.home[i] = ⟨left nv.home[i].a, left nv.home[i].b⟩) ∧
      (∀ i : Fin 4, after.slots[i] = left nv.slots[i]))) ∧
  (∀ nv : NvArray, nv.writeAll formatWrites = { NvArray.formatted with ring := nv.ring })

/-- R165, R166: a commit writes only copies that are not current, so that no published copy is ever overwritten; it
always writes the entry's ring position, and home records exactly for the records given a value. -/
def Obligations.CommitSparesCurrent : Prop :=
  ∀ (current : CurrentCopies) (p : Prepared) (configs : Vector ChannelConfig 8),
    let i := buildIntent current p configs
    i.number = p.entry.number ∧ i.control = p.control ∧ i.controlCopy ≠ current.control ∧
    TableWrite.ring p.entry ∈ i.tables ∧
    (∀ t c w r, TableWrite.home t c w r ∈ i.tables ↔
      (t, r) ∈ p.records ∧ current.home[t] ≠ .copy c ∧ w = .number p.entry.number) ∧
    (∀ c w b, TableWrite.active c w b ∈ i.tables ↔
      p.bank = some b ∧ current.active ≠ .copy c ∧ w = .number p.entry.number) ∧
    (∀ c w x, TableWrite.channels c w x ∈ i.tables ↔ ∃ k n, p.channelConfig = some (k, n) ∧
      x = configs.set k n ∧ current.channels ≠ .copy c ∧ w = .number p.entry.number)

/-- R168: whatever the point at which a commit is cut, start-up ends with the commit whole or with nothing of it: cut
in its steps 1 and 2 before the intent is complete, the intent is discarded; cut later, the writes of the roll forward
leave exactly the array of a commit that was never cut; cut after step 4, that array already stands and the start-up
is CLEAN. -/
def Obligations.CutCommitSettles : Prop :=
  ∀ (nv : NvArray) (i : Intent) (second : Bool), nv.Awaits i →
    (∀ written : Bool,
      (planStartup (nv.breakCommit written { intent := i, second := second, stage := .intent })).action =
        .intentDiscarded) ∧
    (planStartup (nv.breakCommit false { intent := i, second := second, stage := .verify })).action =
      .intentDiscarded ∧
    (let cut := nv.breakCommit true { intent := i, second := second, stage := .verify }
     (planStartup cut).action = .rolledForward i.number ∧
     cut.writeAll (planStartup cut).settle = nv.committed i) ∧
    (∀ (written : Bool) (done rest : List TableWrite), i.tables = done ++ rest →
      let cut := (nv.withTables i done).breakCommit written { intent := i, second := second, stage := .tables rest }
      (planStartup cut).action = .rolledForward i.number ∧
      cut.writeAll (planStartup cut).settle = nv.committed i) ∧
    (let cut := (nv.withTables i i.tables).breakCommit false { intent := i, second := second, stage := .retire }
     (planStartup cut).action = .rolledForward i.number ∧
     cut.writeAll (planStartup cut).settle = nv.committed i) ∧
    (let cut := (nv.withTables i i.tables).breakCommit true { intent := i, second := second, stage := .retire }
     cut = nv.committed i ∧ (planStartup cut).action = .clean ∧ (planStartup cut).settle = [])

/-! ### The laws every step keeps -/

/-- The laws hold of the state after reset (which is the model's choice where the spec is silent: logs 4 and 6). -/
def Obligations.LawsAtReset : Prop :=
  PhaseLaw State.reset ∧ TotalsLaw State.reset ∧ QueueLaw State.reset ∧ JournalLaw State.reset ∧
  ChannelLaw State.reset ∧ EpochLaw State.reset ∧ SlotLaw State.reset ∧ RisesLaw State.reset ∧
  CommitMatches State.reset ∧ StartupMatches State.reset ∧ PublishedIsPersisted State.reset

/-- R87, R169, R174: every step from any state keeps start-up apart from every flight and commit. -/
def Obligations.PhaseLawKept : Prop :=
  ∀ s t : State, PhaseLaw s → step s = .next t → PhaseLaw t

/-- R20, R21: every step keeps every totaliser record lawful: a legal combination of settings, its value within its
bounds, and its residue below one unit and zero unless its rounding is CARRY; published, in flight, and in the
array. -/
def Obligations.TotalsLawKept : Prop :=
  ∀ s t : State, TotalsLaw s → step s = .next t → TotalsLaw t

/-- R73, R75, R76: every step keeps the queue within 16 items and 48 legs, at most the head ACTIVE, and the sequence
numbers distinct and below the next one to give. -/
def Obligations.QueueLawKept : Prop :=
  ∀ s t : State, QueueLaw s → step s = .next t → QueueLaw t

/-- R141, R146, R149: every step keeps the journal within 32 entries, numbered without a gap from the head up to the
counter, and the engine IDLE only at 30 entries or fewer. -/
def Obligations.JournalLawKept : Prop :=
  ∀ s t : State, PhaseLaw s → JournalLaw s → step s = .next t → JournalLaw t

/-- R116, R117: every step keeps every channel lawful: its counts within 65535, its gate and request as its state
allows, its fold in flight the one the item in flight holds. -/
def Obligations.ChannelLawKept : Prop :=
  ∀ s t : State, PhaseLaw s → ChannelLaw s → step s = .next t → ChannelLaw t

/-- R104, R107, R166: every step keeps the commit the one built at the take, with every write it no longer has to make
standing in the array, so that outside start-up what is published is always what the array holds: the current copies of
the control block, the totalisers, the active bank and the channel configuration, the ring and the slots. -/
def Obligations.PublishedStaysPersisted : Prop :=
  ∀ s t : State, PhaseLaw s → JournalLaw s → SlotLaw s → CommitMatches s → StartupMatches s →
    PublishedIsPersisted s → step s = .next t →
    CommitMatches t ∧ StartupMatches t ∧ PublishedIsPersisted t

/-- R19: every step keeps what is in flight for a MONOTONIC record from lowering it; and outside start-up no step
lowers the published value of a MONOTONIC totaliser, or changes its kind, but the commit completion that publishes a
wrap of that totaliser or a CONFIGURE_TOTALISER of it. -/
def Obligations.MonotonicNeverLowered : Prop :=
  ∀ s t : State, PhaseLaw s → TotalsLaw s → RisesLaw s → step s = .next t →
    RisesLaw t ∧
    ∀ i : Fin 64, s.device ≠ .starting → t.device ≠ .starting → s.totals[i].data.kind = .monotonic →
      (t.totals[i].data.kind = .monotonic ∧ s.totals[i].data.value ≤ t.totals[i].data.value) ∨
      ∃ rest f r, s.pending = .commitCompletion :: rest ∧ s.engine.inFlight = some f ∧ (i, r) ∈ f.prepared.records ∧
        (f.prepared.entry.source = .configureTotaliser ∨
          ∃ e ∈ f.prepared.entry.effects, e.target = i ∧ e.mark = .wrapped)

/-- R33, R45, R107, R159: outside start-up what is published changes at a commit completion alone; there the epoch
stays or advances by one (EpochLaw) and a pinned slot keeps its capture (SlotLaw), and every step keeps those two
laws. -/
def Obligations.PublicationAlone : Prop :=
  ∀ (s t : State) (c : Instr) (rest : List Instr), s.pending = c :: rest → PhaseLaw s → EpochLaw s → SlotLaw s →
    step s = .next t →
    EpochLaw t ∧ SlotLaw t ∧
    (s.device ≠ .starting → t.device ≠ .starting →
      (c ≠ .commitCompletion → SamePublished s t) ∧
      (t.constants.epoch = s.constants.epoch ∨ t.constants.epoch = s.constants.epoch + 1) ∧
      (∀ i : Fin 4, s.checkpoints.slots[i].pinned = true →
        t.checkpoints.slots[i].content = s.checkpoints.slots[i].content))

end
end

