-- ==== Sys2Proof/Laws/State.lean ====
section
/-! SUPPORT. One lemma for each field of the state under each named update: what it becomes, or that it is
unchanged. With these no proof unfolds an update. -/

namespace Sys2Proof.Machine

/-! ### `raise` -/

@[simp] theorem raise_port (e : Event) (s : State) : (raise e s).port = s.port := rfl
@[simp] theorem raise_command (e : Event) (s : State) : (raise e s).command = s.command := rfl
@[simp] theorem raise_result (e : Event) (s : State) : (raise e s).result = s.result := rfl
@[simp] theorem raise_args (e : Event) (s : State) : (raise e s).args = s.args := rfl
@[simp] theorem raise_readout (e : Event) (s : State) : (raise e s).readout = s.readout := rfl
@[simp] theorem raise_events (e : Event) (s : State) : (raise e s).events = s.events ||| e.mask := rfl
@[simp] theorem raise_enables (e : Event) (s : State) : (raise e s).enables = s.enables := rfl
@[simp] theorem raise_cfgen (e : Event) (s : State) : (raise e s).cfgen = s.cfgen := rfl
@[simp] theorem raise_pfail (e : Event) (s : State) : (raise e s).pfail = s.pfail := rfl
@[simp] theorem raise_resetPin (e : Event) (s : State) : (raise e s).resetPin = s.resetPin := rfl
@[simp] theorem raise_powered (e : Event) (s : State) : (raise e s).powered = s.powered := rfl
@[simp] theorem raise_operand (e : Event) (s : State) : (raise e s).operand = s.operand := rfl
@[simp] theorem raise_draft (e : Event) (s : State) : (raise e s).draft = s.draft := rfl
@[simp] theorem raise_queue (e : Event) (s : State) : (raise e s).queue = s.queue := rfl
@[simp] theorem raise_totals (e : Event) (s : State) : (raise e s).totals = s.totals := rfl
@[simp] theorem raise_constants (e : Event) (s : State) : (raise e s).constants = s.constants := rfl
@[simp] theorem raise_channels (e : Event) (s : State) : (raise e s).channels = s.channels := rfl
@[simp] theorem raise_engine (e : Event) (s : State) : (raise e s).engine = s.engine := rfl
@[simp] theorem raise_journal (e : Event) (s : State) : (raise e s).journal = s.journal := rfl
@[simp] theorem raise_checkpoints (e : Event) (s : State) : (raise e s).checkpoints = s.checkpoints := rfl
@[simp] theorem raise_device (e : Event) (s : State) : (raise e s).device = s.device := rfl
@[simp] theorem raise_pfTaken (e : Event) (s : State) : (raise e s).pfTaken = s.pfTaken := rfl
@[simp] theorem raise_generation (e : Event) (s : State) : (raise e s).generation = s.generation := rfl
@[simp] theorem raise_boot (e : Event) (s : State) : (raise e s).boot = s.boot := rfl
@[simp] theorem raise_nv (e : Event) (s : State) : (raise e s).nv = s.nv := rfl
@[simp] theorem raise_current (e : Event) (s : State) : (raise e s).current = s.current := rfl
@[simp] theorem raise_commit (e : Event) (s : State) : (raise e s).commit = s.commit := rfl
@[simp] theorem raise_startup (e : Event) (s : State) : (raise e s).startup = s.startup := rfl
@[simp] theorem raise_report (e : Event) (s : State) : (raise e s).report = s.report := rfl
@[simp] theorem raise_pending (e : Event) (s : State) : (raise e s).pending = s.pending := rfl
@[simp] theorem raise_freeCount (e : Event) (s : State) : (raise e s).freeCount = s.freeCount := rfl

/-! ### `raiseIf` -/

@[simp] theorem raiseIf_port (c : Bool) (e : Event) (s : State) : (raiseIf c e s).port = s.port := by cases c <;> rfl
@[simp] theorem raiseIf_command (c : Bool) (e : Event) (s : State) :
    (raiseIf c e s).command = s.command := by cases c <;> rfl
@[simp] theorem raiseIf_result (c : Bool) (e : Event) (s : State) :
    (raiseIf c e s).result = s.result := by cases c <;> rfl
@[simp] theorem raiseIf_args (c : Bool) (e : Event) (s : State) : (raiseIf c e s).args = s.args := by cases c <;> rfl
@[simp] theorem raiseIf_readout (c : Bool) (e : Event) (s : State) :
    (raiseIf c e s).readout = s.readout := by cases c <;> rfl
@[simp] theorem raiseIf_events (c : Bool) (e : Event) (s : State) :
    (raiseIf c e s).events = if c then s.events ||| e.mask else s.events := by cases c <;> rfl
@[simp] theorem raiseIf_enables (c : Bool) (e : Event) (s : State) :
    (raiseIf c e s).enables = s.enables := by cases c <;> rfl
@[simp] theorem raiseIf_cfgen (c : Bool) (e : Event) (s : State) :
    (raiseIf c e s).cfgen = s.cfgen := by cases c <;> rfl
@[simp] theorem raiseIf_pfail (c : Bool) (e : Event) (s : State) :
    (raiseIf c e s).pfail = s.pfail := by cases c <;> rfl
@[simp] theorem raiseIf_resetPin (c : Bool) (e : Event) (s : State) :
    (raiseIf c e s).resetPin = s.resetPin := by cases c <;> rfl
@[simp] theorem raiseIf_powered (c : Bool) (e : Event) (s : State) :
    (raiseIf c e s).powered = s.powered := by cases c <;> rfl
@[simp] theorem raiseIf_operand (c : Bool) (e : Event) (s : State) :
    (raiseIf c e s).operand = s.operand := by cases c <;> rfl
@[simp] theorem raiseIf_draft (c : Bool) (e : Event) (s : State) :
    (raiseIf c e s).draft = s.draft := by cases c <;> rfl
@[simp] theorem raiseIf_queue (c : Bool) (e : Event) (s : State) :
    (raiseIf c e s).queue = s.queue := by cases c <;> rfl
@[simp] theorem raiseIf_totals (c : Bool) (e : Event) (s : State) :
    (raiseIf c e s).totals = s.totals := by cases c <;> rfl
@[simp] theorem raiseIf_constants (c : Bool) (e : Event) (s : State) :
    (raiseIf c e s).constants = s.constants := by cases c <;> rfl
@[simp] theorem raiseIf_channels (c : Bool) (e : Event) (s : State) :
    (raiseIf c e s).channels = s.channels := by cases c <;> rfl
@[simp] theorem raiseIf_engine (c : Bool) (e : Event) (s : State) :
    (raiseIf c e s).engine = s.engine := by cases c <;> rfl
@[simp] theorem raiseIf_journal (c : Bool) (e : Event) (s : State) :
    (raiseIf c e s).journal = s.journal := by cases c <;> rfl
@[simp] theorem raiseIf_checkpoints (c : Bool) (e : Event) (s : State) :
    (raiseIf c e s).checkpoints = s.checkpoints := by cases c <;> rfl
@[simp] theorem raiseIf_device (c : Bool) (e : Event) (s : State) :
    (raiseIf c e s).device = s.device := by cases c <;> rfl
@[simp] theorem raiseIf_pfTaken (c : Bool) (e : Event) (s : State) :
    (raiseIf c e s).pfTaken = s.pfTaken := by cases c <;> rfl
@[simp] theorem raiseIf_generation (c : Bool) (e : Event) (s : State) :
    (raiseIf c e s).generation = s.generation := by cases c <;> rfl
@[simp] theorem raiseIf_boot (c : Bool) (e : Event) (s : State) : (raiseIf c e s).boot = s.boot := by cases c <;> rfl
@[simp] theorem raiseIf_nv (c : Bool) (e : Event) (s : State) : (raiseIf c e s).nv = s.nv := by cases c <;> rfl
@[simp] theorem raiseIf_current (c : Bool) (e : Event) (s : State) :
    (raiseIf c e s).current = s.current := by cases c <;> rfl
@[simp] theorem raiseIf_commit (c : Bool) (e : Event) (s : State) :
    (raiseIf c e s).commit = s.commit := by cases c <;> rfl
@[simp] theorem raiseIf_startup (c : Bool) (e : Event) (s : State) :
    (raiseIf c e s).startup = s.startup := by cases c <;> rfl
@[simp] theorem raiseIf_report (c : Bool) (e : Event) (s : State) :
    (raiseIf c e s).report = s.report := by cases c <;> rfl
@[simp] theorem raiseIf_pending (c : Bool) (e : Event) (s : State) :
    (raiseIf c e s).pending = s.pending := by cases c <;> rfl
@[simp] theorem raiseIf_freeCount (c : Bool) (e : Event) (s : State) :
    (raiseIf c e s).freeCount = s.freeCount := by cases c <;> rfl

/-! ### `setChannel` -/

@[simp] theorem setChannel_port (c : Fin 8) (x : Channel) (s : State) : (setChannel c x s).port = s.port := rfl
@[simp] theorem setChannel_command (c : Fin 8) (x : Channel) (s : State) :
    (setChannel c x s).command = s.command := rfl
@[simp] theorem setChannel_result (c : Fin 8) (x : Channel) (s : State) : (setChannel c x s).result = s.result := rfl
@[simp] theorem setChannel_args (c : Fin 8) (x : Channel) (s : State) : (setChannel c x s).args = s.args := rfl
@[simp] theorem setChannel_readout (c : Fin 8) (x : Channel) (s : State) :
    (setChannel c x s).readout = s.readout := rfl
@[simp] theorem setChannel_events (c : Fin 8) (x : Channel) (s : State) : (setChannel c x s).events = s.events := rfl
@[simp] theorem setChannel_enables (c : Fin 8) (x : Channel) (s : State) :
    (setChannel c x s).enables = s.enables := rfl
@[simp] theorem setChannel_cfgen (c : Fin 8) (x : Channel) (s : State) : (setChannel c x s).cfgen = s.cfgen := rfl
@[simp] theorem setChannel_pfail (c : Fin 8) (x : Channel) (s : State) : (setChannel c x s).pfail = s.pfail := rfl
@[simp] theorem setChannel_resetPin (c : Fin 8) (x : Channel) (s : State) :
    (setChannel c x s).resetPin = s.resetPin := rfl
@[simp] theorem setChannel_powered (c : Fin 8) (x : Channel) (s : State) :
    (setChannel c x s).powered = s.powered := rfl
@[simp] theorem setChannel_operand (c : Fin 8) (x : Channel) (s : State) :
    (setChannel c x s).operand = s.operand := rfl
@[simp] theorem setChannel_draft (c : Fin 8) (x : Channel) (s : State) : (setChannel c x s).draft = s.draft := rfl
@[simp] theorem setChannel_queue (c : Fin 8) (x : Channel) (s : State) : (setChannel c x s).queue = s.queue := rfl
@[simp] theorem setChannel_totals (c : Fin 8) (x : Channel) (s : State) : (setChannel c x s).totals = s.totals := rfl
@[simp] theorem setChannel_constants (c : Fin 8) (x : Channel) (s : State) :
    (setChannel c x s).constants = s.constants := rfl
@[simp] theorem setChannel_channels (c : Fin 8) (x : Channel) (s : State) :
    (setChannel c x s).channels = s.channels.set c x := rfl
@[simp] theorem setChannel_engine (c : Fin 8) (x : Channel) (s : State) : (setChannel c x s).engine = s.engine := rfl
@[simp] theorem setChannel_journal (c : Fin 8) (x : Channel) (s : State) :
    (setChannel c x s).journal = s.journal := rfl
@[simp] theorem setChannel_checkpoints (c : Fin 8) (x : Channel) (s : State) :
    (setChannel c x s).checkpoints = s.checkpoints := rfl
@[simp] theorem setChannel_device (c : Fin 8) (x : Channel) (s : State) : (setChannel c x s).device = s.device := rfl
@[simp] theorem setChannel_pfTaken (c : Fin 8) (x : Channel) (s : State) :
    (setChannel c x s).pfTaken = s.pfTaken := rfl
@[simp] theorem setChannel_generation (c : Fin 8) (x : Channel) (s : State) :
    (setChannel c x s).generation = s.generation := rfl
@[simp] theorem setChannel_boot (c : Fin 8) (x : Channel) (s : State) : (setChannel c x s).boot = s.boot := rfl
@[simp] theorem setChannel_nv (c : Fin 8) (x : Channel) (s : State) : (setChannel c x s).nv = s.nv := rfl
@[simp] theorem setChannel_current (c : Fin 8) (x : Channel) (s : State) :
    (setChannel c x s).current = s.current := rfl
@[simp] theorem setChannel_commit (c : Fin 8) (x : Channel) (s : State) : (setChannel c x s).commit = s.commit := rfl
@[simp] theorem setChannel_startup (c : Fin 8) (x : Channel) (s : State) :
    (setChannel c x s).startup = s.startup := rfl
@[simp] theorem setChannel_report (c : Fin 8) (x : Channel) (s : State) : (setChannel c x s).report = s.report := rfl
@[simp] theorem setChannel_pending (c : Fin 8) (x : Channel) (s : State) :
    (setChannel c x s).pending = s.pending := rfl
@[simp] theorem setChannel_freeCount (c : Fin 8) (x : Channel) (s : State) :
    (setChannel c x s).freeCount = s.freeCount := rfl

/-! ### `setRun` -/

@[simp] theorem setRun_port (c : Fin 8) (r : ChannelRun) (s : State) : (setRun c r s).port = s.port := rfl
@[simp] theorem setRun_command (c : Fin 8) (r : ChannelRun) (s : State) : (setRun c r s).command = s.command := rfl
@[simp] theorem setRun_result (c : Fin 8) (r : ChannelRun) (s : State) : (setRun c r s).result = s.result := rfl
@[simp] theorem setRun_args (c : Fin 8) (r : ChannelRun) (s : State) : (setRun c r s).args = s.args := rfl
@[simp] theorem setRun_readout (c : Fin 8) (r : ChannelRun) (s : State) : (setRun c r s).readout = s.readout := rfl
@[simp] theorem setRun_events (c : Fin 8) (r : ChannelRun) (s : State) : (setRun c r s).events = s.events := rfl
@[simp] theorem setRun_enables (c : Fin 8) (r : ChannelRun) (s : State) : (setRun c r s).enables = s.enables := rfl
@[simp] theorem setRun_cfgen (c : Fin 8) (r : ChannelRun) (s : State) : (setRun c r s).cfgen = s.cfgen := rfl
@[simp] theorem setRun_pfail (c : Fin 8) (r : ChannelRun) (s : State) : (setRun c r s).pfail = s.pfail := rfl
@[simp] theorem setRun_resetPin (c : Fin 8) (r : ChannelRun) (s : State) :
    (setRun c r s).resetPin = s.resetPin := rfl
@[simp] theorem setRun_powered (c : Fin 8) (r : ChannelRun) (s : State) : (setRun c r s).powered = s.powered := rfl
@[simp] theorem setRun_operand (c : Fin 8) (r : ChannelRun) (s : State) : (setRun c r s).operand = s.operand := rfl
@[simp] theorem setRun_draft (c : Fin 8) (r : ChannelRun) (s : State) : (setRun c r s).draft = s.draft := rfl
@[simp] theorem setRun_queue (c : Fin 8) (r : ChannelRun) (s : State) : (setRun c r s).queue = s.queue := rfl
@[simp] theorem setRun_totals (c : Fin 8) (r : ChannelRun) (s : State) : (setRun c r s).totals = s.totals := rfl
@[simp] theorem setRun_constants (c : Fin 8) (r : ChannelRun) (s : State) :
    (setRun c r s).constants = s.constants := rfl
@[simp] theorem setRun_channels (c : Fin 8) (r : ChannelRun) (s : State) :
    (setRun c r s).channels = s.channels.set c { s.channels[c] with run := r } := rfl
@[simp] theorem setRun_engine (c : Fin 8) (r : ChannelRun) (s : State) : (setRun c r s).engine = s.engine := rfl
@[simp] theorem setRun_journal (c : Fin 8) (r : ChannelRun) (s : State) : (setRun c r s).journal = s.journal := rfl
@[simp] theorem setRun_checkpoints (c : Fin 8) (r : ChannelRun) (s : State) :
    (setRun c r s).checkpoints = s.checkpoints := rfl
@[simp] theorem setRun_device (c : Fin 8) (r : ChannelRun) (s : State) : (setRun c r s).device = s.device := rfl
@[simp] theorem setRun_pfTaken (c : Fin 8) (r : ChannelRun) (s : State) : (setRun c r s).pfTaken = s.pfTaken := rfl
@[simp] theorem setRun_generation (c : Fin 8) (r : ChannelRun) (s : State) :
    (setRun c r s).generation = s.generation := rfl
@[simp] theorem setRun_boot (c : Fin 8) (r : ChannelRun) (s : State) : (setRun c r s).boot = s.boot := rfl
@[simp] theorem setRun_nv (c : Fin 8) (r : ChannelRun) (s : State) : (setRun c r s).nv = s.nv := rfl
@[simp] theorem setRun_current (c : Fin 8) (r : ChannelRun) (s : State) : (setRun c r s).current = s.current := rfl
@[simp] theorem setRun_commit (c : Fin 8) (r : ChannelRun) (s : State) : (setRun c r s).commit = s.commit := rfl
@[simp] theorem setRun_startup (c : Fin 8) (r : ChannelRun) (s : State) : (setRun c r s).startup = s.startup := rfl
@[simp] theorem setRun_report (c : Fin 8) (r : ChannelRun) (s : State) : (setRun c r s).report = s.report := rfl
@[simp] theorem setRun_pending (c : Fin 8) (r : ChannelRun) (s : State) : (setRun c r s).pending = s.pending := rfl
@[simp] theorem setRun_freeCount (c : Fin 8) (r : ChannelRun) (s : State) :
    (setRun c r s).freeCount = s.freeCount := rfl

/-! ### `advancePort` -/

@[simp] theorem advancePort_port (s : State) :
    s.advancePort.port = { s.port with address := nextAddress s.port.address } := rfl
@[simp] theorem advancePort_command (s : State) : s.advancePort.command = s.command := rfl
@[simp] theorem advancePort_result (s : State) : s.advancePort.result = s.result := rfl
@[simp] theorem advancePort_args (s : State) : s.advancePort.args = s.args := rfl
@[simp] theorem advancePort_readout (s : State) : s.advancePort.readout = s.readout := rfl
@[simp] theorem advancePort_events (s : State) : s.advancePort.events = s.events := rfl
@[simp] theorem advancePort_enables (s : State) : s.advancePort.enables = s.enables := rfl
@[simp] theorem advancePort_cfgen (s : State) : s.advancePort.cfgen = s.cfgen := rfl
@[simp] theorem advancePort_pfail (s : State) : s.advancePort.pfail = s.pfail := rfl
@[simp] theorem advancePort_resetPin (s : State) : s.advancePort.resetPin = s.resetPin := rfl
@[simp] theorem advancePort_powered (s : State) : s.advancePort.powered = s.powered := rfl
@[simp] theorem advancePort_operand (s : State) : s.advancePort.operand = s.operand := rfl
@[simp] theorem advancePort_draft (s : State) : s.advancePort.draft = s.draft := rfl
@[simp] theorem advancePort_queue (s : State) : s.advancePort.queue = s.queue := rfl
@[simp] theorem advancePort_totals (s : State) : s.advancePort.totals = s.totals := rfl
@[simp] theorem advancePort_constants (s : State) : s.advancePort.constants = s.constants := rfl
@[simp] theorem advancePort_channels (s : State) : s.advancePort.channels = s.channels := rfl
@[simp] theorem advancePort_engine (s : State) : s.advancePort.engine = s.engine := rfl
@[simp] theorem advancePort_journal (s : State) : s.advancePort.journal = s.journal := rfl
@[simp] theorem advancePort_checkpoints (s : State) : s.advancePort.checkpoints = s.checkpoints := rfl
@[simp] theorem advancePort_device (s : State) : s.advancePort.device = s.device := rfl
@[simp] theorem advancePort_pfTaken (s : State) : s.advancePort.pfTaken = s.pfTaken := rfl
@[simp] theorem advancePort_generation (s : State) : s.advancePort.generation = s.generation := rfl
@[simp] theorem advancePort_boot (s : State) : s.advancePort.boot = s.boot := rfl
@[simp] theorem advancePort_nv (s : State) : s.advancePort.nv = s.nv := rfl
@[simp] theorem advancePort_current (s : State) : s.advancePort.current = s.current := rfl
@[simp] theorem advancePort_commit (s : State) : s.advancePort.commit = s.commit := rfl
@[simp] theorem advancePort_startup (s : State) : s.advancePort.startup = s.startup := rfl
@[simp] theorem advancePort_report (s : State) : s.advancePort.report = s.report := rfl
@[simp] theorem advancePort_pending (s : State) : s.advancePort.pending = s.pending := rfl
@[simp] theorem advancePort_freeCount (s : State) : s.advancePort.freeCount = s.freeCount := rfl

/-! ### `withPending` -/

@[simp] theorem withPending_port (l : List Instr) (s : State) : (s.withPending l).port = s.port := rfl
@[simp] theorem withPending_command (l : List Instr) (s : State) : (s.withPending l).command = s.command := rfl
@[simp] theorem withPending_result (l : List Instr) (s : State) : (s.withPending l).result = s.result := rfl
@[simp] theorem withPending_args (l : List Instr) (s : State) : (s.withPending l).args = s.args := rfl
@[simp] theorem withPending_readout (l : List Instr) (s : State) : (s.withPending l).readout = s.readout := rfl
@[simp] theorem withPending_events (l : List Instr) (s : State) : (s.withPending l).events = s.events := rfl
@[simp] theorem withPending_enables (l : List Instr) (s : State) : (s.withPending l).enables = s.enables := rfl
@[simp] theorem withPending_cfgen (l : List Instr) (s : State) : (s.withPending l).cfgen = s.cfgen := rfl
@[simp] theorem withPending_pfail (l : List Instr) (s : State) : (s.withPending l).pfail = s.pfail := rfl
@[simp] theorem withPending_resetPin (l : List Instr) (s : State) : (s.withPending l).resetPin = s.resetPin := rfl
@[simp] theorem withPending_powered (l : List Instr) (s : State) : (s.withPending l).powered = s.powered := rfl
@[simp] theorem withPending_operand (l : List Instr) (s : State) : (s.withPending l).operand = s.operand := rfl
@[simp] theorem withPending_draft (l : List Instr) (s : State) : (s.withPending l).draft = s.draft := rfl
@[simp] theorem withPending_queue (l : List Instr) (s : State) : (s.withPending l).queue = s.queue := rfl
@[simp] theorem withPending_totals (l : List Instr) (s : State) : (s.withPending l).totals = s.totals := rfl
@[simp] theorem withPending_constants (l : List Instr) (s : State) : (s.withPending l).constants = s.constants := rfl
@[simp] theorem withPending_channels (l : List Instr) (s : State) : (s.withPending l).channels = s.channels := rfl
@[simp] theorem withPending_engine (l : List Instr) (s : State) : (s.withPending l).engine = s.engine := rfl
@[simp] theorem withPending_journal (l : List Instr) (s : State) : (s.withPending l).journal = s.journal := rfl
@[simp] theorem withPending_checkpoints (l : List Instr) (s : State) :
    (s.withPending l).checkpoints = s.checkpoints := rfl
@[simp] theorem withPending_device (l : List Instr) (s : State) : (s.withPending l).device = s.device := rfl
@[simp] theorem withPending_pfTaken (l : List Instr) (s : State) : (s.withPending l).pfTaken = s.pfTaken := rfl
@[simp] theorem withPending_generation (l : List Instr) (s : State) :
    (s.withPending l).generation = s.generation := rfl
@[simp] theorem withPending_boot (l : List Instr) (s : State) : (s.withPending l).boot = s.boot := rfl
@[simp] theorem withPending_nv (l : List Instr) (s : State) : (s.withPending l).nv = s.nv := rfl
@[simp] theorem withPending_current (l : List Instr) (s : State) : (s.withPending l).current = s.current := rfl
@[simp] theorem withPending_commit (l : List Instr) (s : State) : (s.withPending l).commit = s.commit := rfl
@[simp] theorem withPending_startup (l : List Instr) (s : State) : (s.withPending l).startup = s.startup := rfl
@[simp] theorem withPending_report (l : List Instr) (s : State) : (s.withPending l).report = s.report := rfl
@[simp] theorem withPending_pending (l : List Instr) (s : State) : (s.withPending l).pending = l := rfl
@[simp] theorem withPending_freeCount (l : List Instr) (s : State) : (s.withPending l).freeCount = s.freeCount := rfl

/-! ### `beginFlight` -/

@[simp] theorem beginFlight_port (i : FlightItem) (p : Prepared) (s : State) :
    (beginFlight i p s).port = s.port := rfl
@[simp] theorem beginFlight_command (i : FlightItem) (p : Prepared) (s : State) :
    (beginFlight i p s).command = s.command := rfl
@[simp] theorem beginFlight_result (i : FlightItem) (p : Prepared) (s : State) :
    (beginFlight i p s).result = s.result := rfl
@[simp] theorem beginFlight_args (i : FlightItem) (p : Prepared) (s : State) :
    (beginFlight i p s).args = s.args := rfl
@[simp] theorem beginFlight_readout (i : FlightItem) (p : Prepared) (s : State) :
    (beginFlight i p s).readout = s.readout := rfl
@[simp] theorem beginFlight_events (i : FlightItem) (p : Prepared) (s : State) :
    (beginFlight i p s).events = s.events := rfl
@[simp] theorem beginFlight_enables (i : FlightItem) (p : Prepared) (s : State) :
    (beginFlight i p s).enables = s.enables := rfl
@[simp] theorem beginFlight_cfgen (i : FlightItem) (p : Prepared) (s : State) :
    (beginFlight i p s).cfgen = s.cfgen := rfl
@[simp] theorem beginFlight_pfail (i : FlightItem) (p : Prepared) (s : State) :
    (beginFlight i p s).pfail = s.pfail := rfl
@[simp] theorem beginFlight_resetPin (i : FlightItem) (p : Prepared) (s : State) :
    (beginFlight i p s).resetPin = s.resetPin := rfl
@[simp] theorem beginFlight_powered (i : FlightItem) (p : Prepared) (s : State) :
    (beginFlight i p s).powered = s.powered := rfl
@[simp] theorem beginFlight_operand (i : FlightItem) (p : Prepared) (s : State) :
    (beginFlight i p s).operand = s.operand := rfl
@[simp] theorem beginFlight_draft (i : FlightItem) (p : Prepared) (s : State) :
    (beginFlight i p s).draft = s.draft := rfl
@[simp] theorem beginFlight_queue (i : FlightItem) (p : Prepared) (s : State) :
    (beginFlight i p s).queue = s.queue := rfl
@[simp] theorem beginFlight_totals (i : FlightItem) (p : Prepared) (s : State) :
    (beginFlight i p s).totals = s.totals := rfl
@[simp] theorem beginFlight_constants (i : FlightItem) (p : Prepared) (s : State) :
    (beginFlight i p s).constants = s.constants := rfl
@[simp] theorem beginFlight_channels (i : FlightItem) (p : Prepared) (s : State) :
    (beginFlight i p s).channels = s.channels := rfl
@[simp] theorem beginFlight_engine (i : FlightItem) (p : Prepared) (s : State) :
    (beginFlight i p s).engine = { s.engine with state := .persisting, inFlight := some { item := i, prepared := p } } := rfl
@[simp] theorem beginFlight_journal (i : FlightItem) (p : Prepared) (s : State) :
    (beginFlight i p s).journal = s.journal := rfl
@[simp] theorem beginFlight_checkpoints (i : FlightItem) (p : Prepared) (s : State) :
    (beginFlight i p s).checkpoints = s.checkpoints := rfl
@[simp] theorem beginFlight_device (i : FlightItem) (p : Prepared) (s : State) :
    (beginFlight i p s).device = s.device := rfl
@[simp] theorem beginFlight_pfTaken (i : FlightItem) (p : Prepared) (s : State) :
    (beginFlight i p s).pfTaken = s.pfTaken := rfl
@[simp] theorem beginFlight_generation (i : FlightItem) (p : Prepared) (s : State) :
    (beginFlight i p s).generation = s.generation := rfl
@[simp] theorem beginFlight_boot (i : FlightItem) (p : Prepared) (s : State) :
    (beginFlight i p s).boot = s.boot := rfl
@[simp] theorem beginFlight_nv (i : FlightItem) (p : Prepared) (s : State) : (beginFlight i p s).nv = s.nv := rfl
@[simp] theorem beginFlight_current (i : FlightItem) (p : Prepared) (s : State) :
    (beginFlight i p s).current = s.current := rfl
@[simp] theorem beginFlight_commit (i : FlightItem) (p : Prepared) (s : State) :
    (beginFlight i p s).commit = some (s.firstAttempt p) := rfl
@[simp] theorem beginFlight_startup (i : FlightItem) (p : Prepared) (s : State) :
    (beginFlight i p s).startup = s.startup := rfl
@[simp] theorem beginFlight_report (i : FlightItem) (p : Prepared) (s : State) :
    (beginFlight i p s).report = s.report := rfl
@[simp] theorem beginFlight_pending (i : FlightItem) (p : Prepared) (s : State) :
    (beginFlight i p s).pending = s.pending := rfl
@[simp] theorem beginFlight_freeCount (i : FlightItem) (p : Prepared) (s : State) :
    (beginFlight i p s).freeCount = s.freeCount := rfl

/-! ### `enterPowerdown` -/

@[simp] theorem enterPowerdown_port (s : State) : (enterPowerdown s).port = s.port := rfl
@[simp] theorem enterPowerdown_command (s : State) : (enterPowerdown s).command = s.command := rfl
@[simp] theorem enterPowerdown_result (s : State) : (enterPowerdown s).result = s.result := rfl
@[simp] theorem enterPowerdown_args (s : State) : (enterPowerdown s).args = s.args := rfl
@[simp] theorem enterPowerdown_readout (s : State) : (enterPowerdown s).readout = s.readout := rfl
@[simp] theorem enterPowerdown_events (s : State) : (enterPowerdown s).events = s.events := rfl
@[simp] theorem enterPowerdown_enables (s : State) : (enterPowerdown s).enables = s.enables := rfl
@[simp] theorem enterPowerdown_cfgen (s : State) : (enterPowerdown s).cfgen = s.cfgen := rfl
@[simp] theorem enterPowerdown_pfail (s : State) : (enterPowerdown s).pfail = s.pfail := rfl
@[simp] theorem enterPowerdown_resetPin (s : State) : (enterPowerdown s).resetPin = s.resetPin := rfl
@[simp] theorem enterPowerdown_powered (s : State) : (enterPowerdown s).powered = s.powered := rfl
@[simp] theorem enterPowerdown_operand (s : State) : (enterPowerdown s).operand = s.operand := rfl
@[simp] theorem enterPowerdown_draft (s : State) : (enterPowerdown s).draft = s.draft := rfl
@[simp] theorem enterPowerdown_queue (s : State) : (enterPowerdown s).queue = s.queue := rfl
@[simp] theorem enterPowerdown_totals (s : State) : (enterPowerdown s).totals = s.totals := rfl
@[simp] theorem enterPowerdown_constants (s : State) : (enterPowerdown s).constants = s.constants := rfl
@[simp] theorem enterPowerdown_channels (s : State) : (enterPowerdown s).channels = s.channels := rfl
@[simp] theorem enterPowerdown_engine (s : State) :
    (enterPowerdown s).engine = { s.engine with state := .stopped } := rfl
@[simp] theorem enterPowerdown_journal (s : State) : (enterPowerdown s).journal = s.journal := rfl
@[simp] theorem enterPowerdown_checkpoints (s : State) : (enterPowerdown s).checkpoints = s.checkpoints := rfl
@[simp] theorem enterPowerdown_device (s : State) : (enterPowerdown s).device = .powerdown := rfl
@[simp] theorem enterPowerdown_pfTaken (s : State) : (enterPowerdown s).pfTaken = s.pfTaken := rfl
@[simp] theorem enterPowerdown_generation (s : State) : (enterPowerdown s).generation = s.generation := rfl
@[simp] theorem enterPowerdown_boot (s : State) : (enterPowerdown s).boot = s.boot := rfl
@[simp] theorem enterPowerdown_nv (s : State) : (enterPowerdown s).nv = s.nv := rfl
@[simp] theorem enterPowerdown_current (s : State) : (enterPowerdown s).current = s.current := rfl
@[simp] theorem enterPowerdown_commit (s : State) : (enterPowerdown s).commit = s.commit := rfl
@[simp] theorem enterPowerdown_startup (s : State) : (enterPowerdown s).startup = s.startup := rfl
@[simp] theorem enterPowerdown_report (s : State) : (enterPowerdown s).report = s.report := rfl
@[simp] theorem enterPowerdown_pending (s : State) : (enterPowerdown s).pending = s.pending := rfl
@[simp] theorem enterPowerdown_freeCount (s : State) : (enterPowerdown s).freeCount = s.freeCount := rfl

/-! ### `wantSpace` -/

@[simp] theorem wantSpace_port (s : State) : (wantSpace s).port = s.port := rfl
@[simp] theorem wantSpace_command (s : State) : (wantSpace s).command = s.command := rfl
@[simp] theorem wantSpace_result (s : State) : (wantSpace s).result = s.result := rfl
@[simp] theorem wantSpace_args (s : State) : (wantSpace s).args = s.args := rfl
@[simp] theorem wantSpace_readout (s : State) : (wantSpace s).readout = s.readout := rfl
@[simp] theorem wantSpace_events (s : State) : (wantSpace s).events = s.events := rfl
@[simp] theorem wantSpace_enables (s : State) : (wantSpace s).enables = s.enables := rfl
@[simp] theorem wantSpace_cfgen (s : State) : (wantSpace s).cfgen = s.cfgen := rfl
@[simp] theorem wantSpace_pfail (s : State) : (wantSpace s).pfail = s.pfail := rfl
@[simp] theorem wantSpace_resetPin (s : State) : (wantSpace s).resetPin = s.resetPin := rfl
@[simp] theorem wantSpace_powered (s : State) : (wantSpace s).powered = s.powered := rfl
@[simp] theorem wantSpace_operand (s : State) : (wantSpace s).operand = s.operand := rfl
@[simp] theorem wantSpace_draft (s : State) : (wantSpace s).draft = s.draft := rfl
@[simp] theorem wantSpace_queue (s : State) : (wantSpace s).queue = { s.queue with spaceWanted := true } := rfl
@[simp] theorem wantSpace_totals (s : State) : (wantSpace s).totals = s.totals := rfl
@[simp] theorem wantSpace_constants (s : State) : (wantSpace s).constants = s.constants := rfl
@[simp] theorem wantSpace_channels (s : State) : (wantSpace s).channels = s.channels := rfl
@[simp] theorem wantSpace_engine (s : State) : (wantSpace s).engine = s.engine := rfl
@[simp] theorem wantSpace_journal (s : State) : (wantSpace s).journal = s.journal := rfl
@[simp] theorem wantSpace_checkpoints (s : State) : (wantSpace s).checkpoints = s.checkpoints := rfl
@[simp] theorem wantSpace_device (s : State) : (wantSpace s).device = s.device := rfl
@[simp] theorem wantSpace_pfTaken (s : State) : (wantSpace s).pfTaken = s.pfTaken := rfl
@[simp] theorem wantSpace_generation (s : State) : (wantSpace s).generation = s.generation := rfl
@[simp] theorem wantSpace_boot (s : State) : (wantSpace s).boot = s.boot := rfl
@[simp] theorem wantSpace_nv (s : State) : (wantSpace s).nv = s.nv := rfl
@[simp] theorem wantSpace_current (s : State) : (wantSpace s).current = s.current := rfl
@[simp] theorem wantSpace_commit (s : State) : (wantSpace s).commit = s.commit := rfl
@[simp] theorem wantSpace_startup (s : State) : (wantSpace s).startup = s.startup := rfl
@[simp] theorem wantSpace_report (s : State) : (wantSpace s).report = s.report := rfl
@[simp] theorem wantSpace_pending (s : State) : (wantSpace s).pending = s.pending := rfl
@[simp] theorem wantSpace_freeCount (s : State) : (wantSpace s).freeCount = s.freeCount := rfl

/-! ### `announceSpace` -/

@[simp] theorem announceSpace_port (s : State) :
    (announceSpace s).port = s.port := by unfold announceSpace; split <;> rfl
@[simp] theorem announceSpace_command (s : State) :
    (announceSpace s).command = s.command := by unfold announceSpace; split <;> rfl
@[simp] theorem announceSpace_result (s : State) :
    (announceSpace s).result = s.result := by unfold announceSpace; split <;> rfl
@[simp] theorem announceSpace_args (s : State) :
    (announceSpace s).args = s.args := by unfold announceSpace; split <;> rfl
@[simp] theorem announceSpace_readout (s : State) :
    (announceSpace s).readout = s.readout := by unfold announceSpace; split <;> rfl
@[simp] theorem announceSpace_events (s : State) :
    (announceSpace s).events = if s.queue.spaceWanted then s.events ||| Event.queueSpace.mask else s.events := by unfold announceSpace; split <;> rfl
@[simp] theorem announceSpace_enables (s : State) :
    (announceSpace s).enables = s.enables := by unfold announceSpace; split <;> rfl
@[simp] theorem announceSpace_cfgen (s : State) :
    (announceSpace s).cfgen = s.cfgen := by unfold announceSpace; split <;> rfl
@[simp] theorem announceSpace_pfail (s : State) :
    (announceSpace s).pfail = s.pfail := by unfold announceSpace; split <;> rfl
@[simp] theorem announceSpace_resetPin (s : State) :
    (announceSpace s).resetPin = s.resetPin := by unfold announceSpace; split <;> rfl
@[simp] theorem announceSpace_powered (s : State) :
    (announceSpace s).powered = s.powered := by unfold announceSpace; split <;> rfl
@[simp] theorem announceSpace_operand (s : State) :
    (announceSpace s).operand = s.operand := by unfold announceSpace; split <;> rfl
@[simp] theorem announceSpace_draft (s : State) :
    (announceSpace s).draft = s.draft := by unfold announceSpace; split <;> rfl
@[simp] theorem announceSpace_queue (s : State) :
    (announceSpace s).queue = { s.queue with spaceWanted := false } := by
  unfold announceSpace; split
  · rfl
  · next h => rw [Bool.not_eq_true] at h; rw [← h]
@[simp] theorem announceSpace_totals (s : State) :
    (announceSpace s).totals = s.totals := by unfold announceSpace; split <;> rfl
@[simp] theorem announceSpace_constants (s : State) :
    (announceSpace s).constants = s.constants := by unfold announceSpace; split <;> rfl
@[simp] theorem announceSpace_channels (s : State) :
    (announceSpace s).channels = s.channels := by unfold announceSpace; split <;> rfl
@[simp] theorem announceSpace_engine (s : State) :
    (announceSpace s).engine = s.engine := by unfold announceSpace; split <;> rfl
@[simp] theorem announceSpace_journal (s : State) :
    (announceSpace s).journal = s.journal := by unfold announceSpace; split <;> rfl
@[simp] theorem announceSpace_checkpoints (s : State) :
    (announceSpace s).checkpoints = s.checkpoints := by unfold announceSpace; split <;> rfl
@[simp] theorem announceSpace_device (s : State) :
    (announceSpace s).device = s.device := by unfold announceSpace; split <;> rfl
@[simp] theorem announceSpace_pfTaken (s : State) :
    (announceSpace s).pfTaken = s.pfTaken := by unfold announceSpace; split <;> rfl
@[simp] theorem announceSpace_generation (s : State) :
    (announceSpace s).generation = s.generation := by unfold announceSpace; split <;> rfl
@[simp] theorem announceSpace_boot (s : State) :
    (announceSpace s).boot = s.boot := by unfold announceSpace; split <;> rfl
@[simp] theorem announceSpace_nv (s : State) : (announceSpace s).nv = s.nv := by unfold announceSpace; split <;> rfl
@[simp] theorem announceSpace_current (s : State) :
    (announceSpace s).current = s.current := by unfold announceSpace; split <;> rfl
@[simp] theorem announceSpace_commit (s : State) :
    (announceSpace s).commit = s.commit := by unfold announceSpace; split <;> rfl
@[simp] theorem announceSpace_startup (s : State) :
    (announceSpace s).startup = s.startup := by unfold announceSpace; split <;> rfl
@[simp] theorem announceSpace_report (s : State) :
    (announceSpace s).report = s.report := by unfold announceSpace; split <;> rfl
@[simp] theorem announceSpace_pending (s : State) :
    (announceSpace s).pending = s.pending := by unfold announceSpace; split <;> rfl
@[simp] theorem announceSpace_freeCount (s : State) :
    (announceSpace s).freeCount = s.freeCount := by unfold announceSpace; split <;> rfl

/-! ### `removeItems` -/

@[simp] theorem removeItems_port (l : List QueueItem) (s : State) :
    (removeItems l s).port = s.port := by simp [removeItems]
@[simp] theorem removeItems_command (l : List QueueItem) (s : State) :
    (removeItems l s).command = s.command := by simp [removeItems]
@[simp] theorem removeItems_result (l : List QueueItem) (s : State) :
    (removeItems l s).result = s.result := by simp [removeItems]
@[simp] theorem removeItems_args (l : List QueueItem) (s : State) :
    (removeItems l s).args = s.args := by simp [removeItems]
@[simp] theorem removeItems_readout (l : List QueueItem) (s : State) :
    (removeItems l s).readout = s.readout := by simp [removeItems]
@[simp] theorem removeItems_events (l : List QueueItem) (s : State) :
    (removeItems l s).events = if s.queue.spaceWanted then s.events ||| Event.queueSpace.mask else s.events := by simp [removeItems]
@[simp] theorem removeItems_enables (l : List QueueItem) (s : State) :
    (removeItems l s).enables = s.enables := by simp [removeItems]
@[simp] theorem removeItems_cfgen (l : List QueueItem) (s : State) :
    (removeItems l s).cfgen = s.cfgen := by simp [removeItems]
@[simp] theorem removeItems_pfail (l : List QueueItem) (s : State) :
    (removeItems l s).pfail = s.pfail := by simp [removeItems]
@[simp] theorem removeItems_resetPin (l : List QueueItem) (s : State) :
    (removeItems l s).resetPin = s.resetPin := by simp [removeItems]
@[simp] theorem removeItems_powered (l : List QueueItem) (s : State) :
    (removeItems l s).powered = s.powered := by simp [removeItems]
@[simp] theorem removeItems_operand (l : List QueueItem) (s : State) :
    (removeItems l s).operand = s.operand := by simp [removeItems]
@[simp] theorem removeItems_draft (l : List QueueItem) (s : State) :
    (removeItems l s).draft = s.draft := by simp [removeItems]
@[simp] theorem removeItems_queue (l : List QueueItem) (s : State) :
    (removeItems l s).queue = { s.queue with items := l, spaceWanted := false } := by simp [removeItems]
@[simp] theorem removeItems_totals (l : List QueueItem) (s : State) :
    (removeItems l s).totals = s.totals := by simp [removeItems]
@[simp] theorem removeItems_constants (l : List QueueItem) (s : State) :
    (removeItems l s).constants = s.constants := by simp [removeItems]
@[simp] theorem removeItems_channels (l : List QueueItem) (s : State) :
    (removeItems l s).channels = s.channels := by simp [removeItems]
@[simp] theorem removeItems_engine (l : List QueueItem) (s : State) :
    (removeItems l s).engine = s.engine := by simp [removeItems]
@[simp] theorem removeItems_journal (l : List QueueItem) (s : State) :
    (removeItems l s).journal = s.journal := by simp [removeItems]
@[simp] theorem removeItems_checkpoints (l : List QueueItem) (s : State) :
    (removeItems l s).checkpoints = s.checkpoints := by simp [removeItems]
@[simp] theorem removeItems_device (l : List QueueItem) (s : State) :
    (removeItems l s).device = s.device := by simp [removeItems]
@[simp] theorem removeItems_pfTaken (l : List QueueItem) (s : State) :
    (removeItems l s).pfTaken = s.pfTaken := by simp [removeItems]
@[simp] theorem removeItems_generation (l : List QueueItem) (s : State) :
    (removeItems l s).generation = s.generation := by simp [removeItems]
@[simp] theorem removeItems_boot (l : List QueueItem) (s : State) :
    (removeItems l s).boot = s.boot := by simp [removeItems]
@[simp] theorem removeItems_nv (l : List QueueItem) (s : State) :
    (removeItems l s).nv = s.nv := by simp [removeItems]
@[simp] theorem removeItems_current (l : List QueueItem) (s : State) :
    (removeItems l s).current = s.current := by simp [removeItems]
@[simp] theorem removeItems_commit (l : List QueueItem) (s : State) :
    (removeItems l s).commit = s.commit := by simp [removeItems]
@[simp] theorem removeItems_startup (l : List QueueItem) (s : State) :
    (removeItems l s).startup = s.startup := by simp [removeItems]
@[simp] theorem removeItems_report (l : List QueueItem) (s : State) :
    (removeItems l s).report = s.report := by simp [removeItems]
@[simp] theorem removeItems_pending (l : List QueueItem) (s : State) :
    (removeItems l s).pending = s.pending := by simp [removeItems]
@[simp] theorem removeItems_freeCount (l : List QueueItem) (s : State) :
    (removeItems l s).freeCount = s.freeCount := by simp [removeItems]

/-! ### `answered` -/

@[simp] theorem answered_port (b : Byte) (r : ResultCode) (s : State) : (s.answered b r).port = s.port := rfl
@[simp] theorem answered_command (b : Byte) (r : ResultCode) (s : State) : (s.answered b r).command = b := rfl
@[simp] theorem answered_result (b : Byte) (r : ResultCode) (s : State) : (s.answered b r).result = r := rfl
@[simp] theorem answered_args (b : Byte) (r : ResultCode) (s : State) : (s.answered b r).args = s.args := rfl
@[simp] theorem answered_readout (b : Byte) (r : ResultCode) (s : State) :
    (s.answered b r).readout = s.readout := rfl
@[simp] theorem answered_events (b : Byte) (r : ResultCode) (s : State) : (s.answered b r).events = s.events := rfl
@[simp] theorem answered_enables (b : Byte) (r : ResultCode) (s : State) :
    (s.answered b r).enables = s.enables := rfl
@[simp] theorem answered_cfgen (b : Byte) (r : ResultCode) (s : State) : (s.answered b r).cfgen = s.cfgen := rfl
@[simp] theorem answered_pfail (b : Byte) (r : ResultCode) (s : State) : (s.answered b r).pfail = s.pfail := rfl
@[simp] theorem answered_resetPin (b : Byte) (r : ResultCode) (s : State) :
    (s.answered b r).resetPin = s.resetPin := rfl
@[simp] theorem answered_powered (b : Byte) (r : ResultCode) (s : State) :
    (s.answered b r).powered = s.powered := rfl
@[simp] theorem answered_operand (b : Byte) (r : ResultCode) (s : State) :
    (s.answered b r).operand = s.operand := rfl
@[simp] theorem answered_draft (b : Byte) (r : ResultCode) (s : State) : (s.answered b r).draft = s.draft := rfl
@[simp] theorem answered_queue (b : Byte) (r : ResultCode) (s : State) : (s.answered b r).queue = s.queue := rfl
@[simp] theorem answered_totals (b : Byte) (r : ResultCode) (s : State) : (s.answered b r).totals = s.totals := rfl
@[simp] theorem answered_constants (b : Byte) (r : ResultCode) (s : State) :
    (s.answered b r).constants = s.constants := rfl
@[simp] theorem answered_channels (b : Byte) (r : ResultCode) (s : State) :
    (s.answered b r).channels = s.channels := rfl
@[simp] theorem answered_engine (b : Byte) (r : ResultCode) (s : State) : (s.answered b r).engine = s.engine := rfl
@[simp] theorem answered_journal (b : Byte) (r : ResultCode) (s : State) :
    (s.answered b r).journal = s.journal := rfl
@[simp] theorem answered_checkpoints (b : Byte) (r : ResultCode) (s : State) :
    (s.answered b r).checkpoints = s.checkpoints := rfl
@[simp] theorem answered_device (b : Byte) (r : ResultCode) (s : State) : (s.answered b r).device = s.device := rfl
@[simp] theorem answered_pfTaken (b : Byte) (r : ResultCode) (s : State) :
    (s.answered b r).pfTaken = s.pfTaken := rfl
@[simp] theorem answered_generation (b : Byte) (r : ResultCode) (s : State) :
    (s.answered b r).generation = s.generation := rfl
@[simp] theorem answered_boot (b : Byte) (r : ResultCode) (s : State) : (s.answered b r).boot = s.boot := rfl
@[simp] theorem answered_nv (b : Byte) (r : ResultCode) (s : State) : (s.answered b r).nv = s.nv := rfl
@[simp] theorem answered_current (b : Byte) (r : ResultCode) (s : State) :
    (s.answered b r).current = s.current := rfl
@[simp] theorem answered_commit (b : Byte) (r : ResultCode) (s : State) : (s.answered b r).commit = s.commit := rfl
@[simp] theorem answered_startup (b : Byte) (r : ResultCode) (s : State) :
    (s.answered b r).startup = s.startup := rfl
@[simp] theorem answered_report (b : Byte) (r : ResultCode) (s : State) : (s.answered b r).report = s.report := rfl
@[simp] theorem answered_pending (b : Byte) (r : ResultCode) (s : State) :
    (s.answered b r).pending = s.pending := rfl
@[simp] theorem answered_freeCount (b : Byte) (r : ResultCode) (s : State) :
    (s.answered b r).freeCount = s.freeCount := rfl

/-! ### `seriesEnded` -/

@[simp] theorem seriesEnded_port (s : State) : s.seriesEnded.port = s.port := rfl
@[simp] theorem seriesEnded_command (s : State) : s.seriesEnded.command = s.command := rfl
@[simp] theorem seriesEnded_result (s : State) : s.seriesEnded.result = s.result := rfl
@[simp] theorem seriesEnded_args (s : State) : s.seriesEnded.args = s.args := rfl
@[simp] theorem seriesEnded_readout (s : State) : s.seriesEnded.readout = s.readout := rfl
@[simp] theorem seriesEnded_events (s : State) : s.seriesEnded.events = s.events := rfl
@[simp] theorem seriesEnded_enables (s : State) : s.seriesEnded.enables = s.enables := rfl
@[simp] theorem seriesEnded_cfgen (s : State) : s.seriesEnded.cfgen = s.cfgen := rfl
@[simp] theorem seriesEnded_pfail (s : State) : s.seriesEnded.pfail = s.pfail := rfl
@[simp] theorem seriesEnded_resetPin (s : State) : s.seriesEnded.resetPin = s.resetPin := rfl
@[simp] theorem seriesEnded_powered (s : State) : s.seriesEnded.powered = s.powered := rfl
@[simp] theorem seriesEnded_operand (s : State) :
    s.seriesEnded.operand = { s.operand with seriesOpen := false } := rfl
@[simp] theorem seriesEnded_draft (s : State) : s.seriesEnded.draft = s.draft := rfl
@[simp] theorem seriesEnded_queue (s : State) : s.seriesEnded.queue = s.queue := rfl
@[simp] theorem seriesEnded_totals (s : State) : s.seriesEnded.totals = s.totals := rfl
@[simp] theorem seriesEnded_constants (s : State) : s.seriesEnded.constants = s.constants := rfl
@[simp] theorem seriesEnded_channels (s : State) : s.seriesEnded.channels = s.channels := rfl
@[simp] theorem seriesEnded_engine (s : State) : s.seriesEnded.engine = s.engine := rfl
@[simp] theorem seriesEnded_journal (s : State) : s.seriesEnded.journal = s.journal := rfl
@[simp] theorem seriesEnded_checkpoints (s : State) : s.seriesEnded.checkpoints = s.checkpoints := rfl
@[simp] theorem seriesEnded_device (s : State) : s.seriesEnded.device = s.device := rfl
@[simp] theorem seriesEnded_pfTaken (s : State) : s.seriesEnded.pfTaken = s.pfTaken := rfl
@[simp] theorem seriesEnded_generation (s : State) : s.seriesEnded.generation = s.generation := rfl
@[simp] theorem seriesEnded_boot (s : State) : s.seriesEnded.boot = s.boot := rfl
@[simp] theorem seriesEnded_nv (s : State) : s.seriesEnded.nv = s.nv := rfl
@[simp] theorem seriesEnded_current (s : State) : s.seriesEnded.current = s.current := rfl
@[simp] theorem seriesEnded_commit (s : State) : s.seriesEnded.commit = s.commit := rfl
@[simp] theorem seriesEnded_startup (s : State) : s.seriesEnded.startup = s.startup := rfl
@[simp] theorem seriesEnded_report (s : State) : s.seriesEnded.report = s.report := rfl
@[simp] theorem seriesEnded_pending (s : State) : s.seriesEnded.pending = s.pending := rfl
@[simp] theorem seriesEnded_freeCount (s : State) : s.seriesEnded.freeCount = s.freeCount := rfl

/-! ### `withDraft` -/

@[simp] theorem withDraft_port (g : Half) (b : Body) (s : State) : (s.withDraft g b).port = s.port := rfl
@[simp] theorem withDraft_command (g : Half) (b : Body) (s : State) : (s.withDraft g b).command = s.command := rfl
@[simp] theorem withDraft_result (g : Half) (b : Body) (s : State) : (s.withDraft g b).result = s.result := rfl
@[simp] theorem withDraft_args (g : Half) (b : Body) (s : State) : (s.withDraft g b).args = s.args := rfl
@[simp] theorem withDraft_readout (g : Half) (b : Body) (s : State) : (s.withDraft g b).readout = s.readout := rfl
@[simp] theorem withDraft_events (g : Half) (b : Body) (s : State) : (s.withDraft g b).events = s.events := rfl
@[simp] theorem withDraft_enables (g : Half) (b : Body) (s : State) : (s.withDraft g b).enables = s.enables := rfl
@[simp] theorem withDraft_cfgen (g : Half) (b : Body) (s : State) : (s.withDraft g b).cfgen = s.cfgen := rfl
@[simp] theorem withDraft_pfail (g : Half) (b : Body) (s : State) : (s.withDraft g b).pfail = s.pfail := rfl
@[simp] theorem withDraft_resetPin (g : Half) (b : Body) (s : State) : (s.withDraft g b).resetPin = s.resetPin := rfl
@[simp] theorem withDraft_powered (g : Half) (b : Body) (s : State) : (s.withDraft g b).powered = s.powered := rfl
@[simp] theorem withDraft_operand (g : Half) (b : Body) (s : State) : (s.withDraft g b).operand = s.operand := rfl
@[simp] theorem withDraft_draft (g : Half) (b : Body) (s : State) :
    (s.withDraft g b).draft = some { tag := g, body := b } := rfl
@[simp] theorem withDraft_queue (g : Half) (b : Body) (s : State) : (s.withDraft g b).queue = s.queue := rfl
@[simp] theorem withDraft_totals (g : Half) (b : Body) (s : State) : (s.withDraft g b).totals = s.totals := rfl
@[simp] theorem withDraft_constants (g : Half) (b : Body) (s : State) :
    (s.withDraft g b).constants = s.constants := rfl
@[simp] theorem withDraft_channels (g : Half) (b : Body) (s : State) : (s.withDraft g b).channels = s.channels := rfl
@[simp] theorem withDraft_engine (g : Half) (b : Body) (s : State) : (s.withDraft g b).engine = s.engine := rfl
@[simp] theorem withDraft_journal (g : Half) (b : Body) (s : State) : (s.withDraft g b).journal = s.journal := rfl
@[simp] theorem withDraft_checkpoints (g : Half) (b : Body) (s : State) :
    (s.withDraft g b).checkpoints = s.checkpoints := rfl
@[simp] theorem withDraft_device (g : Half) (b : Body) (s : State) : (s.withDraft g b).device = s.device := rfl
@[simp] theorem withDraft_pfTaken (g : Half) (b : Body) (s : State) : (s.withDraft g b).pfTaken = s.pfTaken := rfl
@[simp] theorem withDraft_generation (g : Half) (b : Body) (s : State) :
    (s.withDraft g b).generation = s.generation := rfl
@[simp] theorem withDraft_boot (g : Half) (b : Body) (s : State) : (s.withDraft g b).boot = s.boot := rfl
@[simp] theorem withDraft_nv (g : Half) (b : Body) (s : State) : (s.withDraft g b).nv = s.nv := rfl
@[simp] theorem withDraft_current (g : Half) (b : Body) (s : State) : (s.withDraft g b).current = s.current := rfl
@[simp] theorem withDraft_commit (g : Half) (b : Body) (s : State) : (s.withDraft g b).commit = s.commit := rfl
@[simp] theorem withDraft_startup (g : Half) (b : Body) (s : State) : (s.withDraft g b).startup = s.startup := rfl
@[simp] theorem withDraft_report (g : Half) (b : Body) (s : State) : (s.withDraft g b).report = s.report := rfl
@[simp] theorem withDraft_pending (g : Half) (b : Body) (s : State) : (s.withDraft g b).pending = s.pending := rfl
@[simp] theorem withDraft_freeCount (g : Half) (b : Body) (s : State) :
    (s.withDraft g b).freeCount = s.freeCount := rfl

/-! ### `withRun` -/

@[simp] theorem withRun_port (c : Fin 8) (r : ChannelRun) (s : State) : (s.withRun c r).port = s.port := rfl
@[simp] theorem withRun_command (c : Fin 8) (r : ChannelRun) (s : State) : (s.withRun c r).command = s.command := rfl
@[simp] theorem withRun_result (c : Fin 8) (r : ChannelRun) (s : State) : (s.withRun c r).result = s.result := rfl
@[simp] theorem withRun_args (c : Fin 8) (r : ChannelRun) (s : State) : (s.withRun c r).args = s.args := rfl
@[simp] theorem withRun_readout (c : Fin 8) (r : ChannelRun) (s : State) : (s.withRun c r).readout = s.readout := rfl
@[simp] theorem withRun_events (c : Fin 8) (r : ChannelRun) (s : State) : (s.withRun c r).events = s.events := rfl
@[simp] theorem withRun_enables (c : Fin 8) (r : ChannelRun) (s : State) : (s.withRun c r).enables = s.enables := rfl
@[simp] theorem withRun_cfgen (c : Fin 8) (r : ChannelRun) (s : State) : (s.withRun c r).cfgen = s.cfgen := rfl
@[simp] theorem withRun_pfail (c : Fin 8) (r : ChannelRun) (s : State) : (s.withRun c r).pfail = s.pfail := rfl
@[simp] theorem withRun_resetPin (c : Fin 8) (r : ChannelRun) (s : State) :
    (s.withRun c r).resetPin = s.resetPin := rfl
@[simp] theorem withRun_powered (c : Fin 8) (r : ChannelRun) (s : State) : (s.withRun c r).powered = s.powered := rfl
@[simp] theorem withRun_operand (c : Fin 8) (r : ChannelRun) (s : State) : (s.withRun c r).operand = s.operand := rfl
@[simp] theorem withRun_draft (c : Fin 8) (r : ChannelRun) (s : State) : (s.withRun c r).draft = s.draft := rfl
@[simp] theorem withRun_queue (c : Fin 8) (r : ChannelRun) (s : State) : (s.withRun c r).queue = s.queue := rfl
@[simp] theorem withRun_totals (c : Fin 8) (r : ChannelRun) (s : State) : (s.withRun c r).totals = s.totals := rfl
@[simp] theorem withRun_constants (c : Fin 8) (r : ChannelRun) (s : State) :
    (s.withRun c r).constants = s.constants := rfl
@[simp] theorem withRun_channels (c : Fin 8) (r : ChannelRun) (s : State) :
    (s.withRun c r).channels = s.channels.set c { config := s.channels[c].config, run := r } := rfl
@[simp] theorem withRun_engine (c : Fin 8) (r : ChannelRun) (s : State) : (s.withRun c r).engine = s.engine := rfl
@[simp] theorem withRun_journal (c : Fin 8) (r : ChannelRun) (s : State) : (s.withRun c r).journal = s.journal := rfl
@[simp] theorem withRun_checkpoints (c : Fin 8) (r : ChannelRun) (s : State) :
    (s.withRun c r).checkpoints = s.checkpoints := rfl
@[simp] theorem withRun_device (c : Fin 8) (r : ChannelRun) (s : State) : (s.withRun c r).device = s.device := rfl
@[simp] theorem withRun_pfTaken (c : Fin 8) (r : ChannelRun) (s : State) : (s.withRun c r).pfTaken = s.pfTaken := rfl
@[simp] theorem withRun_generation (c : Fin 8) (r : ChannelRun) (s : State) :
    (s.withRun c r).generation = s.generation := rfl
@[simp] theorem withRun_boot (c : Fin 8) (r : ChannelRun) (s : State) : (s.withRun c r).boot = s.boot := rfl
@[simp] theorem withRun_nv (c : Fin 8) (r : ChannelRun) (s : State) : (s.withRun c r).nv = s.nv := rfl
@[simp] theorem withRun_current (c : Fin 8) (r : ChannelRun) (s : State) : (s.withRun c r).current = s.current := rfl
@[simp] theorem withRun_commit (c : Fin 8) (r : ChannelRun) (s : State) : (s.withRun c r).commit = s.commit := rfl
@[simp] theorem withRun_startup (c : Fin 8) (r : ChannelRun) (s : State) : (s.withRun c r).startup = s.startup := rfl
@[simp] theorem withRun_report (c : Fin 8) (r : ChannelRun) (s : State) : (s.withRun c r).report = s.report := rfl
@[simp] theorem withRun_pending (c : Fin 8) (r : ChannelRun) (s : State) : (s.withRun c r).pending = s.pending := rfl
@[simp] theorem withRun_freeCount (c : Fin 8) (r : ChannelRun) (s : State) :
    (s.withRun c r).freeCount = s.freeCount := rfl

/-! ### `raised` -/

@[simp] theorem raised_port (e : Event) (s : State) : (s.raised e).port = s.port := rfl
@[simp] theorem raised_command (e : Event) (s : State) : (s.raised e).command = s.command := rfl
@[simp] theorem raised_result (e : Event) (s : State) : (s.raised e).result = s.result := rfl
@[simp] theorem raised_args (e : Event) (s : State) : (s.raised e).args = s.args := rfl
@[simp] theorem raised_readout (e : Event) (s : State) : (s.raised e).readout = s.readout := rfl
@[simp] theorem raised_events (e : Event) (s : State) : (s.raised e).events = s.events ||| e.mask := rfl
@[simp] theorem raised_enables (e : Event) (s : State) : (s.raised e).enables = s.enables := rfl
@[simp] theorem raised_cfgen (e : Event) (s : State) : (s.raised e).cfgen = s.cfgen := rfl
@[simp] theorem raised_pfail (e : Event) (s : State) : (s.raised e).pfail = s.pfail := rfl
@[simp] theorem raised_resetPin (e : Event) (s : State) : (s.raised e).resetPin = s.resetPin := rfl
@[simp] theorem raised_powered (e : Event) (s : State) : (s.raised e).powered = s.powered := rfl
@[simp] theorem raised_operand (e : Event) (s : State) : (s.raised e).operand = s.operand := rfl
@[simp] theorem raised_draft (e : Event) (s : State) : (s.raised e).draft = s.draft := rfl
@[simp] theorem raised_queue (e : Event) (s : State) : (s.raised e).queue = s.queue := rfl
@[simp] theorem raised_totals (e : Event) (s : State) : (s.raised e).totals = s.totals := rfl
@[simp] theorem raised_constants (e : Event) (s : State) : (s.raised e).constants = s.constants := rfl
@[simp] theorem raised_channels (e : Event) (s : State) : (s.raised e).channels = s.channels := rfl
@[simp] theorem raised_engine (e : Event) (s : State) : (s.raised e).engine = s.engine := rfl
@[simp] theorem raised_journal (e : Event) (s : State) : (s.raised e).journal = s.journal := rfl
@[simp] theorem raised_checkpoints (e : Event) (s : State) : (s.raised e).checkpoints = s.checkpoints := rfl
@[simp] theorem raised_device (e : Event) (s : State) : (s.raised e).device = s.device := rfl
@[simp] theorem raised_pfTaken (e : Event) (s : State) : (s.raised e).pfTaken = s.pfTaken := rfl
@[simp] theorem raised_generation (e : Event) (s : State) : (s.raised e).generation = s.generation := rfl
@[simp] theorem raised_boot (e : Event) (s : State) : (s.raised e).boot = s.boot := rfl
@[simp] theorem raised_nv (e : Event) (s : State) : (s.raised e).nv = s.nv := rfl
@[simp] theorem raised_current (e : Event) (s : State) : (s.raised e).current = s.current := rfl
@[simp] theorem raised_commit (e : Event) (s : State) : (s.raised e).commit = s.commit := rfl
@[simp] theorem raised_startup (e : Event) (s : State) : (s.raised e).startup = s.startup := rfl
@[simp] theorem raised_report (e : Event) (s : State) : (s.raised e).report = s.report := rfl
@[simp] theorem raised_pending (e : Event) (s : State) : (s.raised e).pending = s.pending := rfl
@[simp] theorem raised_freeCount (e : Event) (s : State) : (s.raised e).freeCount = s.freeCount := rfl

end Sys2Proof.Machine
end

