-- ==== Sys2Proof/Laws/Ops.lean ====
section
/-! SUPPORT. For each shared operation, one lemma that says what it can do: the taking of commands, arguments, the
operand buffer, events, the queue, the channels, and one change to a record. -/

namespace Sys2Proof.Machine

/-! ### Taking a command (R188, R189) -/

/-- A data byte elsewhere than at COMMAND is no command. -/
theorem takeCommand_elsewhere {s : State} (ha : ¬s.AtCommand) (code : Byte) (ends : Bool)
    (run : State → State × ResultCode) : takeCommand code ends run s = .next s := by
  simp only [State.AtCommand] at ha
  simp [takeCommand, ha]

/-- During STARTING a command is answered NOT_READY. -/
theorem takeCommand_starting {s : State} (ha : s.AtCommand) (hd : s.device = .starting) (code : Byte)
    (ends : Bool) (run : State → State × ResultCode) :
    takeCommand code ends run s = .next (s.replied code ends .notReady) := by
  simp only [State.AtCommand] at ha
  cases ends <;> simp [takeCommand, ha, hd, State.replied, State.answered, State.seriesEnded, endSeries]

/-- A command at COMMAND outside STARTING is carried out on the state with its code shown. -/
theorem takeCommand_run {s : State} (ha : s.AtCommand) (hd : s.device ≠ .starting) (code : Byte) (ends : Bool)
    (run : State → State × ResultCode) :
    takeCommand code ends run s = .next
      { (run { s with command := code, operand := if ends then endSeries s.operand else s.operand }).1 with
        result := (run { s with command := code,
                                operand := if ends then endSeries s.operand else s.operand }).2 } := by
  simp only [State.AtCommand] at ha
  simp [takeCommand, ha, hd]

/-- Everything that taking a command can do. -/
theorem takeCommand_cases {code : Byte} {ends : Bool} {run : State → State × ResultCode} {s t : State}
    (h : takeCommand code ends run s = .next t) :
    (¬s.AtCommand ∧ t = s) ∨
    (s.AtCommand ∧ s.device = .starting ∧ t = s.replied code ends .notReady) ∨
    (s.AtCommand ∧ s.device ≠ .starting ∧
      ∃ u, u = { s with command := code, operand := if ends then endSeries s.operand else s.operand } ∧
        t = { (run u).1 with result := (run u).2 }) := by
  by_cases ha : s.AtCommand
  · by_cases hd : s.device = .starting
    · rw [takeCommand_starting ha hd] at h
      exact .inr (.inl ⟨ha, hd, (Host.Outcome.next.inj h).symm⟩)
    · rw [takeCommand_run ha hd] at h
      exact .inr (.inr ⟨ha, hd, _, rfl, (Host.Outcome.next.inj h).symm⟩)
  · rw [takeCommand_elsewhere ha] at h
    exact .inl ⟨ha, (Host.Outcome.next.inj h).symm⟩

/-- The commands behind the READY test are carried out in READY. -/
theorem takesWork_run {s : State} (h : s.TakesWork) (code : Byte) (ends : Bool)
    (run : State → State × ResultCode) :
    takeCommand code ends (whenReady run) s = .next
      { (run { s with command := code, operand := if ends then endSeries s.operand else s.operand }).1 with
        result := (run { s with command := code,
                                operand := if ends then endSeries s.operand else s.operand }).2 } := by
  obtain ⟨ha, hd⟩ := h
  simp only [State.AtCommand] at ha
  simp [takeCommand, ha, hd, whenReady]

/-- ACK_STATUS and DISCARD are carried out in READY and HALTED. -/
theorem takesAcks_run {s : State} (h : s.TakesAcks) (code : Byte) (run : State → State × ResultCode) :
    takeCommand code false (unlessPowerdown run) s = .next
      { (run { s with command := code }).1 with result := (run { s with command := code }).2 } := by
  obtain ⟨ha, hd⟩ := h
  simp only [State.AtCommand] at ha
  rcases hd with hd | hd <;> simp [takeCommand, ha, hd, unlessPowerdown]

/-- SOFT_RESET, POP, the pins, the gates and ACK_STRAY are carried out before a PFAIL assertion and in HALTED. -/
theorem takesUpkeep_run {s : State} (h : s.TakesUpkeep) (code : Byte) (run : State → State × ResultCode) :
    takeCommand code false (unlessPowerFail run) s = .next
      { (run { s with command := code }).1 with result := (run { s with command := code }).2 } := by
  obtain ⟨ha, hd⟩ := h
  simp only [State.AtCommand] at ha
  rcases hd with ⟨hd, hp⟩ | hd
  · simp [takeCommand, ha, hd, hp, unlessPowerFail]
  · simp [takeCommand, ha, hd, unlessPowerFail]

/-- CANCEL, FOLD_NOW and CLEAR_FAULT are carried out in READY before a PFAIL assertion. -/
theorem takesService_run {s : State} (h : s.TakesService) (code : Byte) (run : State → State × ResultCode) :
    takeCommand code false (onlyServing run) s = .next
      { (run { s with command := code }).1 with result := (run { s with command := code }).2 } := by
  obtain ⟨ha, hd, hp⟩ := h
  simp only [State.AtCommand] at ha
  simp [takeCommand, ha, hd, hp, onlyServing]

/-- A LOAD is carried out outside STARTING. -/
theorem takesLoads_run {s : State} (h : s.TakesLoads) (code : Byte) (run : State → State × ResultCode) :
    takeCommand code false run s = .next
      { (run { s with command := code }).1 with result := (run { s with command := code }).2 } := by
  obtain ⟨ha, hd⟩ := h
  simp only [State.AtCommand] at ha
  simp [takeCommand, ha, hd]

/-! ### Arguments -/

theorem indexArg_of_eq {b : Byte} {n : Nat} {m : Fin n} (h : b.toNat = m.val) : indexArg n b = some m := by
  have hb : b.toNat < n := h ▸ m.isLt
  simp only [indexArg, dif_pos hb]
  exact congrArg some (Fin.ext h)

theorem indexArg_eq_none {b : Byte} {n : Nat} : indexArg n b = none ↔ n ≤ b.toNat := by
  unfold indexArg
  split <;> simp <;> omega

theorem optionalArg_absent {n : Nat} : optionalArg n 255#8 = some none := by simp [optionalArg]

theorem optionalArg_of_eq {b : Byte} {n : Nat} (hn : n ≤ 255) {m : Fin n} (h : b.toNat = m.val) :
    optionalArg n b = some (some m) := by
  have hb : b ≠ 255#8 := by
    rintro rfl
    have := m.isLt
    simp at h
    omega
  simp [optionalArg, hb, indexArg_of_eq h]

theorem bitArg_of_bit {b : Byte} (h : b = 0#8 ∨ b = 1#8) : bitArg b = some (b == 1#8) := by
  rcases h with rfl | rfl <;> rfl

theorem bitArg_eq_none {b : Byte} : bitArg b = none ↔ 1 < b.toNat := by
  revert b
  decide

/-! ### The operand buffer (R13 to R16) -/

/-- Everything that a pair delivered to an open series can do. -/
theorem pushPair_cases (data : Byte) (o : OperandBuffer) :
    (∃ h : o.count < 9, pushPair data o =
      { o with
        pairs := o.pairs.set o.count (if pairLegal data then data else 0)
        count := o.count + 1
        badDigit := o.badDigit || !pairLegal data }) ∨
    (9 ≤ o.count ∧ pushPair data o = { o with overrun := true }) := by
  unfold pushPair
  split
  · next h => exact .inl ⟨h, rfl⟩
  · next h => exact .inr ⟨by omega, rfl⟩

/-! ### Events (R192) -/

/-- Raising an event sets its latch and no other. -/
theorem latched_raise (e f : Event) (s : State) : (raise f s).latched e = (s.latched e || decide (e = f)) := by
  simp only [State.latched, raise, BitVec.getLsbD_or]
  congr 1
  cases e <;> cases f <;> decide

theorem latched_raiseIf (c : Bool) (e f : Event) (s : State) :
    (raiseIf c f s).latched e = (s.latched e || (c && decide (e = f))) := by
  cases c <;> simp [raiseIf, latched_raise]

/-- The latches are the word: two words with the same latches are the same. -/
theorem events_ext {s t : State} (h : ∀ e, s.latched e = t.latched e) : s.events = t.events := by
  apply BitVec.eq_of_getLsbD_eq
  intro i hi
  have hb : ∃ e : Event, e.bit = i := by
    interval_cases i
    exacts [⟨.completion, rfl⟩, ⟨.journalFull, rfl⟩, ⟨.queueSpace, rfl⟩, ⟨.limit, rfl⟩, ⟨.stray, rfl⟩,
      ⟨.overrun, rfl⟩, ⟨.channelFault, rfl⟩, ⟨.channelClosed, rfl⟩, ⟨.nvFault, rfl⟩, ⟨.pfail, rfl⟩, ⟨.ready, rfl⟩]
  obtain ⟨e, rfl⟩ := hb
  exact h e

/-! ### The queue (R79, R83) -/

/-- Everything that announcing space can do. -/
theorem announceSpace_cases (s : State) :
    (s.queue.spaceWanted = true ∧
      announceSpace s = raise .queueSpace { s with queue := { s.queue with spaceWanted := false } }) ∨
    (s.queue.spaceWanted = false ∧ announceSpace s = s) := by
  unfold announceSpace
  cases s.queue.spaceWanted <;> simp

/-! ### Channels (R121, R122) -/

/-- The request of a channel after R122's condition has been looked at; nothing else changes. -/
theorem raiseRequest_eq (pf : Bool) (ch : Channel) :
    ch.raiseRequest pf =
      { config := ch.config
        run := { ch.run with request := ch.run.request || (ch.run.inFlight.isNone && !pf &&
          ((ch.run.state == .counting && decide (ch.config.threshold ≤ ch.run.unfolded)) ||
            (ch.run.state == .draining && decide (0 < ch.run.unfolded)))) } } := by
  obtain ⟨g, r⟩ := ch
  obtain ⟨st, go, u, sy, rq, fl, ov, cf, le⟩ := r
  cases rq
  · simp only [Channel.raiseRequest, Channel.requestDue, Bool.not_false, Bool.true_and, Bool.false_or]
    split
    · next h => simp only [h]
    · next h => simp only [Bool.not_eq_true] at h; simp only [h]
  · simp [Channel.raiseRequest, Channel.requestDue]

theorem getElem_setChannel (c d : Fin 8) (x : Channel) (s : State) :
    (setChannel c x s).channels[d] = if c = d then x else s.channels[d] := by
  by_cases h : c = d
  · subst h
    simp [setChannel]
  · have hv : (c : Nat) ≠ d := fun e => h (Fin.ext e)
    simp [setChannel, hv, h]

/-! ### One change (R26 to R32) -/

/-- Everything that the bounds can do with a candidate. -/
theorem bounded_cases (r : Record) (c : Int × Nat) :
    (r.lowerBound ≤ c.1 ∧ c.1 ≤ r.upperBound ∧
      bounded r c = .ok { value := c.1, residue := c.2, mark := .none, clamp := .none }) ∨
    ((c.1 < r.lowerBound ∨ r.upperBound < c.1) ∧ bounded r c = .error .limit) ∨
    (r.policy = .saturate ∧ r.upperBound < c.1 ∧
      bounded r c = .ok { value := r.upperBound, residue := 0, mark := .saturated, clamp := .upper }) ∨
    (r.policy = .saturate ∧ c.1 < r.lowerBound ∧
      bounded r c = .ok { value := r.lowerBound, residue := 0, mark := .saturated, clamp := .lower }) ∨
    (r.policy = .wrap ∧ r.upperBound < c.1 ∧
      bounded r c = .ok
        { value := c.1 % (Config.capacity + 1), residue := c.2, mark := .wrapped, clamp := .none }) := by
  by_cases hb : r.lowerBound ≤ c.1 ∧ c.1 ≤ r.upperBound
  · exact .inl ⟨hb.1, hb.2, by simp [bounded, hb]⟩
  · have ho : c.1 < r.lowerBound ∨ r.upperBound < c.1 := by omega
    cases hp : r.policy
    · by_cases hu : r.upperBound < c.1
      · exact .inr (.inr (.inl ⟨rfl, hu, by simp [bounded, hb, hp, hu]⟩))
      · exact .inr (.inr (.inr (.inl ⟨rfl, by omega, by simp [bounded, hb, hp, hu]⟩)))
    · by_cases hu : r.upperBound < c.1
      · exact .inr (.inr (.inr (.inr ⟨rfl, hu, by simp [bounded, hb, hp, hu]⟩)))
      · exact .inr (.inl ⟨ho, by simp [bounded, hb, hp, hu]⟩)
    · exact .inr (.inl ⟨ho, by simp [bounded, hb, hp]⟩)

/-- Everything that a change offered to a record can do. -/
theorem applyChange_cases (r : Record) (c : Change) :
    (kindAdmits r.kind c = false ∧ applyChange r c = .error .kind) ∨
    (kindAdmits r.kind c = true ∧ directionAdmits r.kind c = false ∧ applyChange r c = .error .direction) ∨
    (kindAdmits r.kind c = true ∧ directionAdmits r.kind c = true ∧
      applyChange r c = bounded r (candidate r c)) := by
  unfold applyChange
  cases kindAdmits r.kind c <;> cases directionAdmits r.kind c <;> simp

/-- A change fails for one of three reasons. -/
theorem applyChange_error {r : Record} {c : Change} {reason : Reason} (h : applyChange r c = .error reason) :
    reason = .kind ∨ reason = .direction ∨ reason = .limit := by
  rcases applyChange_cases r c with ⟨_, e⟩ | ⟨_, _, e⟩ | ⟨_, _, e⟩
  · rw [e] at h
    exact .inl (Except.error.inj h).symm
  · rw [e] at h
    exact .inr (.inl (Except.error.inj h).symm)
  · rw [e] at h
    rcases bounded_cases r (candidate r c) with ⟨_, _, e⟩ | ⟨_, e⟩ | ⟨_, _, e⟩ | ⟨_, _, e⟩ | ⟨_, _, e⟩ <;>
      rw [e] at h
    · cases h
    · exact .inr (.inr (Except.error.inj h).symm)
    all_goals cases h

/-- The parts of the CARRY combination: the sum is kept, and the residue stays below one unit. -/
theorem carryCombine_spec {r f : Nat} (hr : r < subUnits) (hf : f < subUnits) :
    (carryCombine r f).1 * subUnits + (carryCombine r f).2 = r + f ∧ (carryCombine r f).2 < subUnits := by
  unfold carryCombine
  split <;> constructor <;> simp only <;> omega

end Sys2Proof.Machine
end

