-- ==== Sys2Proof/Laws/Engine.lean ====
section
/-! SUPPORT. What the engine's shared operations do: what is offered and chosen (R89 to R92), and the totaliser table
at a publication (R33, R34). -/

namespace Sys2Proof.Machine

/-! ### What is offered and chosen (R89 to R92) -/

theorem runs_mayTake {s : State} : (s.runs && s.mayTake) = true ↔ s.EngineFree := by
  simp [State.runs, State.mayTake, State.EngineFree]
  tauto

theorem offeredHead_eq_some {s : State} {q : QueueItem} : s.offeredHead = some q ↔ s.Offers q := by
  unfold State.offeredHead State.Offers
  cases s.queue.items with
  | nil => simp
  | cons x rest =>
    cases hx : x.active <;> simp [hx]
    all_goals
      rintro rfl
      exact hx

theorem offeredHead_eq_none {s : State} : s.offeredHead = none ↔ ∀ q, ¬s.Offers q := by
  simp only [Option.eq_none_iff_forall_ne_some, ne_eq, offeredHead_eq_some]

/-- No fold is offered exactly when no channel requests one. -/
theorem offeredFold_eq_none {s : State} :
    s.offeredFold = none ↔ ∀ c : Fin 8, s.channels[c].run.request = false := by
  unfold State.offeredFold serviceOrder
  simp only [List.find?_eq_none, List.mem_map, List.mem_range, Bool.not_eq_true]
  constructor
  · intro h c
    apply h c
    refine ⟨(c - s.engine.lastServed - 1).val, by omega, ?_⟩
    generalize s.engine.lastServed = last
    revert c last
    decide
  · rintro h _ ⟨i, _, rfl⟩
    exact h _

/-- The fold offered is the first in the order of service. -/
theorem offeredFold_first {s : State} {c : Fin 8} (h : s.offeredFold = some c) : s.FirstInOrder c := by
  unfold State.offeredFold serviceOrder at h
  rw [List.find?_eq_some_iff_getElem] at h
  obtain ⟨h1, i, hi, h2, h3⟩ := h
  simp only [List.getElem_map, List.getElem_range] at h2
  refine ⟨h1, i, by simpa using hi, ?_, ?_⟩
  · rw [← h2, Fin.val_add]
    simp
    omega
  · intro j hj d hd
    have hn := h3 j hj
    simp only [List.getElem_map, List.getElem_range] at hn
    have e : d = s.engine.lastServed + Fin.ofNat 8 (j + 1) := by
      apply Fin.ext
      rw [Fin.val_add]
      simp
      omega
    rw [e]
    simpa using hn

theorem firstInOrder_unique {s : State} {c d : Fin 8} (hc : s.FirstInOrder c) (hd : s.FirstInOrder d) : c = d := by
  obtain ⟨hc1, i, _, ei, hi⟩ := hc
  obtain ⟨hd1, j, _, ej, hj⟩ := hd
  rcases lt_trichotomy i j with h | h | h
  · exact absurd hc1 (by rw [hj i h c ei]; decide)
  · subst h
    exact Fin.ext (ei.trans ej.symm)
  · exact absurd hd1 (by rw [hi j h d ej]; decide)

theorem offeredFold_eq_some {s : State} {c : Fin 8} : s.offeredFold = some c ↔ s.FirstInOrder c := by
  refine ⟨offeredFold_first, fun h => ?_⟩
  cases e : s.offeredFold with
  | none => exact absurd h.1 (by rw [offeredFold_eq_none.1 e c]; decide)
  | some d => rw [firstInOrder_unique h (offeredFold_first e)]

/-- Everything that the choice can be (R90). -/
theorem choice_cases (s : State) :
    (s.choice = none ∧ (∀ q, ¬s.Offers q) ∧ ∀ c : Fin 8, s.channels[c].run.request = false) ∨
    (∃ q, s.choice = some (.head q) ∧ s.Offers q ∧
      ((∀ c : Fin 8, s.channels[c].run.request = false) ∨ 4 ≤ s.engine.fairness)) ∨
    (∃ c, s.choice = some (.fold c) ∧ s.FirstInOrder c ∧
      ((∀ q, ¬s.Offers q) ∨ s.engine.fairness < 4)) := by
  unfold State.choice
  cases hh : s.offeredHead with
  | none =>
    cases hf : s.offeredFold with
    | none => exact .inl ⟨rfl, offeredHead_eq_none.1 hh, offeredFold_eq_none.1 hf⟩
    | some c => exact .inr (.inr ⟨c, rfl, offeredFold_first hf, .inl (offeredHead_eq_none.1 hh)⟩)
  | some q =>
    cases hf : s.offeredFold with
    | none => exact .inr (.inl ⟨q, rfl, offeredHead_eq_some.1 hh, .inl (offeredFold_eq_none.1 hf)⟩)
    | some c =>
      by_cases hl : s.engine.fairness < 4
      · exact .inr (.inr ⟨c, by simp [Config.fairFolds, hl], offeredFold_first hf, .inr hl⟩)
      · exact .inr (.inl ⟨q, by simp [Config.fairFolds, hl], offeredHead_eq_some.1 hh, .inr (by omega)⟩)

/-! ### The totaliser table at a publication (R33, R34) -/

/-- Giving records changes no flag, gives each named target its record, and leaves the others. -/
theorem giveRecords_spec (totals : Vector Totaliser 64) (records : List (Fin 64 × Record)) (i : Fin 64) :
    (∀ g, (giveRecords totals records)[i].flag g = totals[i].flag g) ∧
    ((∀ x ∈ records, x.1 ≠ i) → (giveRecords totals records)[i].data = totals[i].data) ∧
    (∀ r, (i, r) ∈ records → (records.map Prod.fst).Nodup → (giveRecords totals records)[i].data = r) := by
  unfold giveRecords
  induction records generalizing totals with
  | nil => simp
  | cons x rest ih =>
    obtain ⟨h1, h2, h3⟩ := ih (totals.set x.1 { totals[x.1] with data := x.2 })
    simp only [List.foldl_cons]
    refine ⟨fun g => ?_, fun h => ?_, fun r hr hn => ?_⟩
    · rw [h1 g]
      by_cases e : x.1 = i
      · subst e
        cases g <;> simp [Totaliser.flag]
      · have ev : (x.1 : Nat) ≠ i := fun h => e (Fin.ext h)
        simp [ev]
    · rw [h2 fun y hy => h y (List.mem_cons_of_mem _ hy)]
      have ev : (x.1 : Nat) ≠ i := fun e => h x List.mem_cons_self (Fin.ext e)
      simp [ev]
    · simp only [List.map_cons, List.nodup_cons] at hn
      rcases List.mem_cons.1 hr with rfl | hr
      · rw [h2]
        · simp
        · rintro y hy rfl
          exact hn.1 (List.mem_map.2 ⟨y, hy, rfl⟩)
      · exact h3 r hr hn.2

/-- Marking changes no record and sets exactly the marked flags. -/
theorem markAll_spec (totals : Vector Totaliser 64) (marks : List (Fin 64 × StatusFlag)) (i : Fin 64) :
    (markAll totals marks)[i].data = totals[i].data ∧
    ∀ g, (markAll totals marks)[i].flag g = true ↔ totals[i].flag g = true ∨ (i, g) ∈ marks := by
  unfold markAll
  induction marks generalizing totals with
  | nil => simp
  | cons x rest ih =>
    obtain ⟨t, f⟩ := x
    obtain ⟨h1, h2⟩ := ih (totals.set t (totals[t].mark f))
    simp only [List.foldl_cons]
    by_cases e : t = i
    · subst e
      have es : (totals.set t (totals[t].mark f))[t] = totals[t].mark f := by simp
      refine ⟨?_, fun g => ?_⟩
      · rw [h1, es]
        cases f <;> rfl
      · rw [h2 g, es]
        cases f <;> cases g <;> simp [Totaliser.mark, Totaliser.flag]
    · have ev : (t : Nat) ≠ i := fun h => e (Fin.ext h)
      have en : i ≠ t := fun h => e h.symm
      refine ⟨?_, fun g => ?_⟩
      · rw [h1]
        simp [ev]
      · rw [h2 g]
        simp [ev, en]

theorem clearFlagsOf_spec (totals : Vector Totaliser 64) (t : Option (Fin 64)) (i : Fin 64) :
    (clearFlagsOf totals t)[i].data = totals[i].data ∧
    (t = some i → ∀ g, (clearFlagsOf totals t)[i].flag g = false) ∧
    (t ≠ some i → (clearFlagsOf totals t)[i] = totals[i]) := by
  cases t with
  | none => simp [clearFlagsOf]
  | some k =>
    by_cases e : k = i
    · subst e
      refine ⟨by simp [clearFlagsOf, Totaliser.unmarked], fun _ g => ?_, fun h => absurd rfl h⟩
      cases g <;> simp [clearFlagsOf, Totaliser.unmarked, Totaliser.flag]
    · have ev : (k : Nat) ≠ i := fun h => e (Fin.ext h)
      simp [clearFlagsOf, ev, e]

/-- The totaliser table after a publication. -/
theorem publishTotals_given (p : Prepared) (s : State) (hn : (p.records.map Prod.fst).Nodup) :
    TotalsGiven s.totals (publishTotals p s).totals p := by
  intro i
  have e : (publishTotals p s).totals =
      clearFlagsOf (markAll (giveRecords s.totals p.records) p.marks) p.clearFlags := by
    simp [publishTotals]
  obtain ⟨c1, c2, c3⟩ := clearFlagsOf_spec (markAll (giveRecords s.totals p.records) p.marks) p.clearFlags i
  obtain ⟨m1, m2⟩ := markAll_spec (giveRecords s.totals p.records) p.marks i
  obtain ⟨g1, g2, g3⟩ := giveRecords_spec s.totals p.records i
  rw [e]
  refine ⟨fun r hr => ?_, fun h => ?_, c2, fun h g => ?_⟩
  · rw [c1, m1, g3 r hr hn]
  · rw [c1, m1, g2 h]
  · rw [c3 h, m2 g, g1 g]

end Sys2Proof.Machine
end

