-- ==== Sys2Proof/Laws/Evaluate.lean ====
section
/-! SUPPORT. For each operation of the port's data bytes and of the evaluation, one lemma that says what it can do. -/

namespace Sys2Proof.Machine

/-! ### Data bytes (R183 to R185) -/

/-- A completed read data byte: the address moves on, the captures grow, and SDO carries the next byte. -/
theorem finishReadByte_eq (s : State) :
    finishReadByte s = { s with port := { s.port with
      address := nextAddress s.port.address
      captured := s.capture (nextAddress s.port.address) ++ s.port.captured
      sdo := .shifting ((arriveAt (nextAddress s.port.address) s).readAt (nextAddress s.port.address)) } } := rfl

/-- The fall of nCS changes the port alone. -/
theorem openTransaction_eq (s : State) :
    openTransaction s = { s with port := { s.port with mode := .first, captured := [], sdo := .shifting 0x00#8 } } := rfl

/-- A written byte is its row's event at COMMAND, OPERAND, EVENTS and EVENT_ENABLE, and elsewhere a plain write. -/
theorem writeDataByte_cases (data : Byte) (s : State) :
    (s.port.address = 0x02#6 ∧ writeDataByte data s = takeCode data s) ∨
    (s.port.address = 0x10#6 ∧ writeDataByte data s = execOperand data s) ∨
    ((s.port.address = 0x1A#6 ∨ s.port.address = 0x1B#6) ∧ writeDataByte data s = execEvents data s) ∨
    ((s.port.address = 0x1C#6 ∨ s.port.address = 0x1D#6) ∧ writeDataByte data s = execEventEnable data s) ∨
    ((∀ a ∈ [0x02#6, 0x10#6, 0x1A#6, 0x1B#6, 0x1C#6, 0x1D#6], s.port.address ≠ a) ∧
      writeDataByte data s = .next (writeRegister data s).advancePort) := by
  have key (n : Nat) (h : n < 2 ^ 6) (e : s.port.address.toNat = n) : s.port.address = BitVec.ofNat 6 n := by
    rw [← e, BitVec.ofNat_toNat, BitVec.setWidth_eq]
  unfold writeDataByte
  split
  case h_1 e => exact .inl ⟨key _ (by decide) e, rfl⟩
  case h_2 e => exact .inr (.inl ⟨key _ (by decide) e, rfl⟩)
  case h_3 e => exact .inr (.inr (.inl ⟨.inl (key _ (by decide) e), rfl⟩))
  case h_4 e => exact .inr (.inr (.inl ⟨.inr (key _ (by decide) e), rfl⟩))
  case h_5 e => exact .inr (.inr (.inr (.inl ⟨.inl (key _ (by decide) e), rfl⟩)))
  case h_6 e => exact .inr (.inr (.inr (.inl ⟨.inr (key _ (by decide) e), rfl⟩)))
  case h_7 h1 h2 h3 h4 h5 h6 =>
    refine .inr (.inr (.inr (.inr ⟨?_, rfl⟩)))
    intro a ha e
    simp only [List.mem_cons, List.not_mem_nil, or_false] at ha
    rcases ha with rfl | rfl | rfl | rfl | rfl | rfl <;> simp_all

/-! ### The effect of a CONFIGURE_TOTALISER (R42, R143) -/

/-- Where the new value has an exact form at the old scale, the effect holds it. -/
theorem valueAtScale_exact {n : Record} {scale : Nat} {v : Int} (h : n.decimal.alignExact scale = some v) :
    valueAtScale n scale = v := by simp [valueAtScale, h]

/-- Where it has none, the effect holds a free value of at most 18 digits. -/
theorem valueAtScale_free {n : Record} {scale : Nat} (h : n.decimal.alignExact scale = none) :
    (valueAtScale n scale).natAbs < 10 ^ 18 := by
  simp only [valueAtScale, h, Int.natAbs_tmod]
  exact Nat.mod_lt _ (by decide)

/-! ### Postings (R96, R102) -/

/-- What the working copies hold after an effect. -/
theorem takeEffect_getElem (work : Working) (e : Effect) (t : Fin 64) :
    (takeEffect work e)[t] =
      if e.target = t ∧ e.mark ≠ .skipped then { work[t] with value := e.value, residue := e.residue }
      else work[t] := by
  unfold takeEffect
  by_cases hm : e.mark = .skipped
  · simp [hm]
  · by_cases ht : e.target = t
    · subst ht; simp [hm]
    · have : e.target.val ≠ t.val := fun h => ht (Fin.ext h)
      simp [hm, ht, this]

/-- The legs of a posting give one result each, or the reason of one of them. -/
theorem evalLegs_cases (bank : Bank) (mode : GuardMode) (legs : List Leg) : ∀ (i : Nat) (work : Working),
    (∃ xs w, evalLegs bank mode i work legs = .ok (xs, w) ∧ xs.length = legs.length) ∨
    (∃ reason k, evalLegs bank mode i work legs = .error (reason, i + k) ∧ k < legs.length) := by
  induction legs with
  | nil => exact fun i work => .inl ⟨[], work, rfl, rfl⟩
  | cons leg rest ih =>
    intro i work
    cases hx : evalLeg bank mode work leg with
    | error r => exact .inr ⟨r, 0, by simp [evalLegs, hx], by simp⟩
    | ok x =>
      rcases ih (i + 1) (takeEffect work x.effect) with ⟨xs, w, h, hl⟩ | ⟨r, k, h, hk⟩
      · exact .inl ⟨x :: xs, w, by simp [evalLegs, hx, h], by simp [hl]⟩
      · exact .inr ⟨r, k + 1, by simp [evalLegs, hx, h]; omega, by simpa using hk⟩

end Sys2Proof.Machine
end

