-- ==== Sys2Proof/Laws/Nv.lean ====
section
/-! SUPPORT. The NV array: what one write leaves in its area and that it leaves every other area, and the copies of a
pair (R164 to R166). -/

namespace Sys2Proof.Machine

/-! ### The copies of a pair -/

@[simp] theorem Pair.get_set_same {α : Type} (p : Pair α) (c : CopyId) (x : Area α) : (p.set c x).get c = x := by
  cases c <;> rfl

@[simp] theorem Pair.get_set_other {α : Type} (p : Pair α) (c : CopyId) (x : Area α) :
    (p.set c x).get c.other = p.get c.other := by
  cases c <;> rfl

@[simp] theorem CopyId.other_other (c : CopyId) : c.other.other = c := by cases c <;> rfl

@[simp] theorem CopyId.other_ne (c : CopyId) : c.other ≠ c := by cases c <;> simp [CopyId.other]

theorem CopyId.eq_or_other (c d : CopyId) : d = c ∨ d = c.other := by cases c <;> cases d <;> simp [CopyId.other]

/-! ### One write -/

/-- A write read back as written stands in its area. -/
theorem NvArray.writeTable_holds (nv : NvArray) (w : TableWrite) : (nv.writeTable true w).Holds w := by
  cases w <;> simp [NvArray.writeTable, NvArray.Holds, writtenArea]

/-- The areas that two table writes name are different ones. -/
def TableWrite.Apart : TableWrite → TableWrite → Prop
  | .home t c _ _, .home u d _ _ => t ≠ u ∨ c ≠ d
  | .ring e, .ring f => ringPosition e.number ≠ ringPosition f.number
  | .active c _ _, .active d _ _ => c ≠ d
  | .channels c _ _, .channels d _ _ => c ≠ d
  | .slot i _ _, .slot j _ _ => i ≠ j
  | _, _ => True

/-- A write leaves every area but its own. -/
theorem NvArray.writeTable_frame (nv : NvArray) (done : Bool) (w x : TableWrite) (h : w.Apart x)
    (hx : nv.Holds x) : (nv.writeTable done w).Holds x := by
  cases w <;> cases x <;>
    simp_all only [TableWrite.Apart, NvArray.writeTable, NvArray.Holds, Fin.getElem_fin, ne_eq]
  · next t c _ _ u d _ _ =>
    by_cases e : t = u
    · subst e
      have hd : d = c.other := by
        rcases CopyId.eq_or_other c d with rfl | rfl
        · simp at h
        · rfl
      subst hd
      simpa using hx
    · have ev : (t : Nat) ≠ u := fun h => e (Fin.ext h)
      simpa [ev] using hx
  · next e f =>
    have ev : (ringPosition e.number : Nat) ≠ ringPosition f.number := fun h' => h (Fin.ext h')
    simpa [ev] using hx
  · next c _ _ d _ _ =>
    rcases CopyId.eq_or_other c d with rfl | rfl
    · simp at h
    · simpa using hx
  · next c _ _ d _ _ =>
    rcases CopyId.eq_or_other c d with rfl | rfl
    · simp at h
    · simpa using hx
  · next i _ _ j _ _ =>
    have ev : (i : Nat) ≠ j := fun h' => h (Fin.ext h')
    simpa [ev] using hx

@[simp] theorem NvArray.writeTable_controlA (nv : NvArray) (done : Bool) (w : TableWrite) :
    (nv.writeTable done w).controlA = nv.controlA := by cases w <;> rfl

@[simp] theorem NvArray.writeTable_controlB (nv : NvArray) (done : Bool) (w : TableWrite) :
    (nv.writeTable done w).controlB = nv.controlB := by cases w <;> rfl

@[simp] theorem NvArray.writeTable_intent (nv : NvArray) (done : Bool) (w : TableWrite) :
    (nv.writeTable done w).intent = nv.intent := by cases w <;> rfl

@[simp] theorem NvArray.withTables_controlA (nv : NvArray) (i : Intent) (ws : List TableWrite) :
    (nv.withTables i ws).controlA = nv.controlA := by
  unfold NvArray.withTables
  induction ws using List.reverseRecOn with
  | nil => rfl
  | append_singleton ws w ih => simp [List.foldl_append, ih]

@[simp] theorem NvArray.withTables_controlB (nv : NvArray) (i : Intent) (ws : List TableWrite) :
    (nv.withTables i ws).controlB = nv.controlB := by
  unfold NvArray.withTables
  induction ws using List.reverseRecOn with
  | nil => rfl
  | append_singleton ws w ih => simp [List.foldl_append, ih]

@[simp] theorem NvArray.withTables_intent (nv : NvArray) (i : Intent) (ws : List TableWrite) :
    (nv.withTables i ws).intent = .held i := by
  unfold NvArray.withTables
  induction ws using List.reverseRecOn with
  | nil => rfl
  | append_singleton ws w ih => simp [List.foldl_append, ih]

/-- A control block write leaves the tables and the intent. -/
theorem NvArray.writeControl_frame (nv : NvArray) (done : Bool) (c : CopyId) (b : ControlBlock) :
    (nv.writeControl done c b).intent = nv.intent ∧ (nv.writeControl done c b).home = nv.home ∧
    (nv.writeControl done c b).active = nv.active ∧ (nv.writeControl done c b).channels = nv.channels ∧
    (nv.writeControl done c b).ring = nv.ring ∧ (nv.writeControl done c b).slots = nv.slots := by
  cases c <;> exact ⟨rfl, rfl, rfl, rfl, rfl, rfl⟩

end Sys2Proof.Machine
end

