-- ==== Sys2Proof/Tests/Slice0.lean ====
section
/-! SUPPORT. The model's own tests: the worked examples of spec/, one small step for each command, the smoke test of
WellFormed, and for every statement with hypotheses a witness that meets them. Expected results are the spec's. -/

namespace Sys2Proof.Tests
open Sys2Proof.Machine

/-! ### States to test on -/

/-- Argument registers holding these bytes, zeros after them. -/
def bytes (l : List Nat) : Vector Byte 12 := Vector.ofFn fun i => BitVec.ofNat 8 (l.getD i.val 0)

def portAt (mode : PortMode) (a : Address) : Port := { mode := mode, address := a, captured := [], sdo := .highZ }

/-- A part in READY with CFGEN active, a write transaction at COMMAND and these arguments. -/
def ready (l : List Nat) : State :=
  { State.reset with
    device := .ready, startup := none, cfgen := true, port := portAt .write 0x02#6, args := bytes l }

/-- The state after a command; the state itself were the command not to go on. -/
def after (c : Instr) (s : State) : State :=
  match exec c s with
  | .next t => t
  | _ => s

def halted (l : List Nat) : State := { ready l with device := .halted }
def powerdown (l : List Nat) : State := { ready l with device := .powerdown }

/-- A part whose port has a transaction of this mode at this address. -/
def portState (mode : PortMode) (a : Address) : State := { ready [] with port := portAt mode a }

/-- The operand buffer after these pairs. -/
def buffer (pairs : List Byte) : OperandBuffer := pairs.foldl (fun o p => writeOperand p o) OperandBuffer.cleared

def active : Record := { Record.unused with state := .active }

/-- Totalisers 0 and 1 ACTIVE. -/
def withTotals (s : State) : State :=
  { s with totals := ((s.totals.set 0 ⟨active, false, false, false⟩).set 1 ⟨active, false, false, false⟩) }

def addLeg (n : Int) : Leg :=
  { target := 0, op := .add, source := .immediate { value := n, scale := 0 }, multiplier := none, guard := none }

def item (seq : Word) (body : Body) : QueueItem := { seq := seq, active := false, draft := { tag := 7, body := body } }

/-- A part with one item waiting in its queue. -/
def queued (body : Body) : State :=
  { withTotals (ready []) with queue := { items := [item 1 body], nextSeq := some 2, spaceWanted := false } }

def withDraftBody (l : List Nat) (body : Body) : State := { ready l with draft := some { tag := 9, body := body } }

/-- An enabled channel on totaliser 1, one unit a pulse, threshold 2. -/
def nozzle : ChannelConfig :=
  { ChannelConfig.formatted with enabled := true, target := 1, quantum := { value := 1, scale := 0 }, threshold := 2 }

/-- Channel 0 with this runtime record. -/
def channelState (l : List Nat) (r : ChannelRun) : State :=
  setChannel 0 { config := nozzle, run := r } (withTotals (ready l))

def counting (n : Nat) : ChannelRun := { ChannelRun.fresh true with state := .counting, gateOpen := true, unfolded := n }

/-- A part with a fold request pending on channel 0. -/
def requested : State := channelState [] { counting 3 with request := true }

/-- The commit of the item in flight put at its last step. -/
def retiring (s : State) : State := { s with commit := s.commit.map fun c => { c with stage := .retire } }

/-- A flight of this item that changes nothing but the journal. -/
def flight (i : FlightItem) (s : State) : State :=
  retiring (beginFlight i (s.prepare (s.blankEntry .posting)) s)

/-- Start-up at these writes. -/
def writing (settle : List NvWrite) (retried : Bool) : State :=
  { State.reset with startup := some (.writing
    { settle := settle, retried := retried, control := ControlBlock.formatted, copy := .a,
      settled := ControlBlock.formatted, settledCopy := .a, action := .clean }) }

/-! ### The smoke test of WellFormed -/

theorem test_wellFormed_unknownCommand : (Instr.unknownCommand 0x01#8).wellFormed = false ∧
    (Instr.unknownCommand 0x0C#8).wellFormed = true := by decide
theorem test_no_word_spells_a_command : decodeTableWord 8 0x01 = none := by decide

/-! ### Worked examples of Chapter 1 -/

theorem test_align_negative_half :
    [Rounding.halfUp, .halfEven, .truncate].map (fun m => Dec.align m ⟨-125, 3⟩ 2) = [-13, -12, -12] := by decide
theorem test_align_gains_a_digit :
    [Rounding.halfUp, .halfEven, .truncate].map (fun m => Dec.align m ⟨999995, 3⟩ 2) = [100000, 100000, 99999] := by
  decide
theorem test_exact_product : Dec.mul ⟨-12347, 3⟩ ⟨1659, 3⟩ = ⟨-20483673, 6⟩ := by decide
theorem test_carry_sequence :
    (carryCombine 37000000 (carryFraction 8125 4 0), carryWhole 2000000002 9 0, carryFraction 2000000002 9 0,
      carryCombine 18250000 (carryFraction 8175 4 0)) = ((1, 18250000), 2, 0, (1, 0)) := by decide
theorem test_exact_alignment : (Dec.alignExact ⟨1250, 2⟩ 1, Dec.alignExact ⟨1255, 2⟩ 1) = (some 125, none) := by decide
theorem test_comparison : (Relation.lt.holds ⟨10000, 3⟩ ⟨100000000001, 10⟩, Relation.eq.holds ⟨10000, 3⟩ ⟨10, 0⟩) =
    (true, true) := by decide
theorem test_direction_before_alignment :
    applyChange { active with kind := .resettable, scale := 2 } (.delta ⟨-4, 3⟩) = .error .direction := by decide
theorem test_wrap_to_zero :
    bounded { active with kind := .monotonic, policy := .wrap } (1000000000000000000, 5) =
      .ok { value := 0, residue := 5, mark := .wrapped, clamp := .none } := by decide
theorem test_saturate_drops_residue :
    bounded { active with kind := .monotonic, policy := .saturate, upper := some 50 } (51, 7) =
      .ok { value := 50, residue := 0, mark := .saturated, clamp := .upper } := by decide

/-! ### One step of each command -/

theorem test_transactionStart_falls :
    (after (.transactionStart none) (portState .none 0)).port.sdo = .shifting 0x00#8 := by decide
theorem test_transactionStart_read :
    (after (.transactionStart (some 0x80#8)) (portState .first 0)).port.sdo = .shifting 0x4E#8 := by decide
theorem test_registerWrite_command :
    (after (.registerWrite 0x05#8) (withDraftBody [] .switch)).draft = none := by decide
theorem test_registerWrite_argument :
    (after (.registerWrite 0x5A#8) (portState .write 0x0F#6)).args[11] = 0x5A#8 := by decide
theorem test_registerWrite_readOnly :
    (after (.registerWrite 0x5A#8) (portState .write 0x3F#6)).port.address = 0x00#6 := by decide
theorem test_multiByteReadCapture :
    (after (.multiByteReadCapture 0x18#6)
      { portState .read 0x17#6 with constants := { (ready []).constants with epoch := 0x1234#16 } }).port.captured =
      [(0x18#6, 0x34#8), (0x19#6, 0x12#8)] := by decide
theorem test_multiByteReadCapture_moves_on :
    (after (.multiByteReadCapture 0x01#6) (portState .read 0x00#6)).port.sdo = .shifting 0x01#8 := by decide
theorem test_operand_example :
    (buffer [0x40#8, 0x12#8]).coefficient = 1240 := by decide
theorem test_operand_bad_digit :
    (after (.operand 0x1A#8) (portState .write 0x10#6)).operand.badDigit = true := by decide
theorem test_readout_goes_round :
    (after .readout
      { portState .read 0x11#6 with readout := { bytes := [1#8, 2#8, 3#8], kind := 1, pointer := 3 } }).readout.left =
      2 := by decide
theorem test_events_clear :
    (after (.events 0x01#8) { portState .write 0x1A#6 with events := 0x403#11 }).events = 0x402#11 := by decide
theorem test_eventEnable_high :
    (after (.eventEnable 0xFF#8) (portState .write 0x1D#6)).enables = 0x700#11 := by decide
theorem test_open_protected :
    (after .openDraft { ready [1] with cfgen := false }).result = .protected_ := by decide
theorem test_open_posting_example :
    (after .openDraft (ready [0, 3, 2, 8, 0, 0])).draft = some { tag := 515, body := .posting 8 .skip [] } := by
  decide
theorem test_leg_example :
    (after .leg { withDraftBody [8, 0, 0, 0, 0, 2, 255, 255] (.posting 8 .skip []) with
      operand := buffer [0x40#8, 0x12#8] }).draft.map Draft.legs =
      some [{ target := 8, op := .add, source := .immediate ⟨1240, 2⟩, multiplier := none, guard := none }] := by
  decide
theorem test_leg_clear_with_constant :
    (after .leg (withDraftBody [9, 3, 1, 9, 0, 0, 255, 255] (.posting 8 .skip []))).result = .badArgument := by decide
theorem test_field_scale :
    (after .field (withDraftBody [1, 6] (.configureTotaliser 3 TotFields.empty))).draft.map Draft.body =
      some (.configureTotaliser 3 { TotFields.empty with scale := some 6 }) := by decide
theorem test_field_selection_empty :
    (after .field (withDraftBody [15] (.checkpoint 1))).result = .badArgument := by decide
theorem test_submit_numbers :
    (after .submit { withDraftBody [] .switch with
      queue := { items := [], nextSeq := some 0xFFFFFFFF#32, spaceWanted := false } }).queue.nextSeq = none := by
  decide
theorem test_submit_empty_posting : (after .submit (withDraftBody [] (.posting 0 .skip []))).result = .emptyDraft := by
  decide
theorem test_discard : (after .discard (withDraftBody [] .switch)).draft = none := by decide
theorem test_cancel_active :
    (after .cancel { queued .switch with
      args := bytes [1], queue := { items := [{ item 1 .switch with active := true }], nextSeq := some 2,
                                    spaceWanted := false } }).result = .tooLate := by decide
theorem test_writePending :
    (after .writePending { ready [31, 1, 1, 10] with operand := buffer [0x07#8] }).constants.pending[31] =
      some ⟨-7, 10⟩ := by decide
theorem test_ackStatus :
    (after .ackStatus { ready [63] with totals := (ready []).totals.set 63 ⟨active, true, true, true⟩ }).totals[63] =
      ⟨active, false, false, false⟩ := by decide
theorem test_pop_empty : (after .pop (ready [])).result = .wrongState := by decide
theorem test_pop_ends_held :
    (after .pop { ready [] with
      journal := { counter := 32, head := 1, entries := List.replicate 31 (JournalEntry.damagedAt 1) }
      engine := { (ready []).engine with state := .held } }).engine.state = .idle := by decide
theorem test_pin_empty_slot : (after .pin (ready [3])).result = .wrongState := by decide
theorem test_unpin_bad_slot : (after .unpin (ready [4])).result = .badArgument := by decide
theorem test_softReset : (after .softReset (ready [])).device = .starting := by decide
theorem test_gateOpen : (after .gateOpen (channelState [0] (ChannelRun.fresh true))).channels[0].run.state = .counting := by
  decide
theorem test_gateClose_drains :
    let t := after .gateClose (channelState [0] (counting 1))
    t.channels[0].run.state = .draining ∧ t.channels[0].run.request = true := by decide
theorem test_gateClose_closes :
    (after .gateClose (channelState [0] (counting 0))).latched .channelClosed = true := by decide
theorem test_foldNow_nothing : (after .foldNow (channelState [0] (counting 0))).result = .nothingToFold := by decide
theorem test_clearFault_recounts :
    (after .clearFault (channelState [0] { counting 2 with state := .faulted })).channels[0].run.request = true := by
  decide
theorem test_ackStray : (after .ackStray (channelState [0] { counting 0 with stray := 9 })).channels[0].run.stray = 0 := by
  decide
theorem test_loadTotaliser_length : (after .loadTotaliser (ready [5])).readout.left = 45 := by decide
theorem test_loadConstant_bad : (after .loadConstant (ready [32])).result = .badArgument := by decide
theorem test_loadChannel_kind : (after .loadChannel (ready [7])).readout.kind = 3 := by decide
theorem test_loadQueueEntry : (after .loadQueueEntry (ready [0])).result = .notFound := by decide
theorem test_loadJournal : (after .loadJournal (ready [32])).result = .badArgument := by decide
theorem test_loadCheckpoint : (after .loadCheckpoint (ready [0])).result = .notFound := by decide
theorem test_loadDraft : (after .loadDraft (withDraftBody [] .switch)).readout.bytes = [3#8, 9#8, 0#8] := by decide
theorem test_loadStartupReport : (after .loadStartupReport (ready [])).readout.left = 20 := by decide
theorem test_unknownCommand : (after (.unknownCommand 0x2F#8) (ready [])).result = .unknownCommand := by decide
theorem test_edge_reaches_threshold :
    let t := after (.edge 0 true 1000) (channelState [] (counting 1))
    t.channels[0].run.unfolded = 2 ∧ t.channels[0].run.request = true := by decide
theorem test_edge_stray :
    (after (.edge 0 true 1000) (channelState [] (ChannelRun.fresh true))).channels[0].run.stray = 1 := by decide
theorem test_cfgenChange : (after (.cfgenChange false) (ready [])).linesRegister = 0 := by decide
theorem test_pfailAssertion : (after .pfailAssertion (ready [])).device = .powerdown := by decide
theorem test_pfailDeassertion :
    (after .pfailDeassertion { powerdown [] with pfail := true }).linesRegister = 1 := by decide
theorem test_resetLineAssertion : (after (.resetLineAssertion false) (ready [])).device = .starting := by decide
theorem test_resetLineRelease :
    (after (.resetLineRelease true true) { State.reset with resetPin := true }).startup = some .waiting := by decide
theorem test_powerLoss : (after (.powerLoss false) (ready [])).powered = false := by decide
theorem test_powerOn : (after (.powerOn false true) { ready [] with powered := false }).pfail = true := by decide
theorem test_startupWriteCompletion_ready :
    let t := after (.startupWriteCompletion true) State.reset
    t.device = .ready ∧ t.boot = 1 ∧ t.latched .ready = true := by decide
theorem test_startupWriteCompletion_second_failure :
    (after (.startupWriteCompletion false) (writing [] true)).device = .halted := by decide
theorem test_take_posting :
    let t := after .take (queued (.posting 0 .skip [addLeg 5]))
    t.engine.state = .persisting ∧ t.queue.items.map QueueItem.active = [true] := by decide
theorem test_take_fold : (after .take requested).channels[0].run.inFlight = some 3 := by decide
theorem test_commitReadBack :
    (after .commitReadBack (after .take (queued .switch))).commit.map Commit.stage = some .verify := by decide
theorem test_commitCompletion_posting :
    let t := after .commitCompletion (retiring (after .take (queued (.posting 0 .skip [addLeg 5]))))
    t.totals[0].data.value = 5 ∧ t.latched .completion = true := by decide
theorem test_commitCompletion_switch :
    (after .commitCompletion (retiring (after .take (queued .switch)))).constants.epoch = 1 := by decide
theorem test_attemptFailure :
    (after .attemptFailure (after .take (queued .switch))).commit.map Commit.second = some true := by decide
theorem test_commitTimeout_halts :
    (after .commitTimeout (after .attemptFailure (after .take (queued .switch)))).device = .halted := by decide
theorem test_transactionEnd : (after .transactionEnd (ready [])).port.mode = .none := by decide

/-! ### Witnesses: states and operands that meet the hypotheses of each statement, clause by clause -/

theorem ready_work (l : List Nat) : (ready l).TakesWork := ⟨rfl, rfl⟩
theorem ready_acks (l : List Nat) : (ready l).TakesAcks := ⟨rfl, .inl rfl⟩
theorem ready_upkeep (l : List Nat) : (ready l).TakesUpkeep := ⟨rfl, .inl ⟨rfl, rfl⟩⟩
theorem halted_upkeep (l : List Nat) : (halted l).TakesUpkeep := ⟨rfl, .inr rfl⟩
theorem ready_service (l : List Nat) : (ready l).TakesService := ⟨rfl, rfl, rfl⟩
theorem ready_loads (l : List Nat) : (ready l).TakesLoads := ⟨rfl, fun h => by cases h⟩
theorem draft_work (l : List Nat) (b : Body) : (withDraftBody l b).TakesWork := ⟨rfl, rfl⟩
theorem channel_upkeep (l : List Nat) (r : ChannelRun) : (channelState l r).TakesUpkeep := ⟨rfl, .inl ⟨rfl, rfl⟩⟩
theorem channel_service (l : List Nat) (r : ChannelRun) : (channelState l r).TakesService := ⟨rfl, rfl, rfl⟩

theorem witness_StepRunsFrontCommand :
    { ready [] with pending := [Instr.take] }.pending = [Instr.take] ∧ (ready []).pending = [] := ⟨rfl, rfl⟩

theorem witness_TransactionBytes :
    ((portState .none 0).powered = true ∧ (portState .none 0).resetPin = false ∧ (portState .none 0).port.mode = .none) ∧
    ((portState .first 0).port.mode = .first ∧ (0xFF#8).getLsbD 7 = true ∧ (0x7F#8).getLsbD 7 = false) ∧
    { ready [] with powered := false }.powered = false ∧ { ready [] with resetPin := true }.resetPin = true ∧
    (∀ i : Fin 12, (portState .write (BitVec.ofNat 6 (4 + i.val))).writesAt (BitVec.ofNat 6 (4 + i.val)) = true) ∧
    (∀ a ∈ [0x00#6, 0x03#6, 0x11#6, 0x19#6, 0x1E#6, 0x3F#6],
      (portState .write a).writesAt a = true ∧
      ((a.toNat < 4 ∧ a ≠ 2#6) ∨ (0x11 ≤ a.toNat ∧ a.toNat < 0x1A) ∨ 0x1E ≤ a.toNat)) ∧
    (∀ a ∈ [0x10#6, 0x1A#6, 0x1B#6, 0x1C#6, 0x1D#6], (portState .write a).writesAt a = true) ∧
    (Instr.softReset.wellFormed = true ∧ hostCode .softReset = some (0x3F#8, false) ∧ (ready []).port.address = 0x02#6) ∧
    (portState .read 0x11#6).port.address = 0x11#6 ∧
    ((portState .read 0x3F#6).port.mode = .read ∧ (portState .read 0x3F#6).port.address ≠ 0x11#6 ∧
      (0x00#6 : Address) = 0x3F#6 + 1#6) ∧
    ((portState .read 0x17#6).port.address + 1#6 = 0x18#6 ∧ 0x19#6 ∈ wideSpan 0x18#6) := by decide

/-- A write transaction at OPERAND, the buffer in an open series of `n` pairs or at a series' end. -/
def operandState (n : Nat) (isOpen : Bool) : State :=
  { portState .write 0x10#6 with operand := { buffer [] with count := n, seriesOpen := isOpen } }

theorem witness_OperandPairTaken :
    (operandState 0 true).writesAt 0x10#6 = true ∧ (operandState 0 true).device = .ready ∧
    ((operandState 8 true).operand.count < 9 ∧ (operandState 8 true).operand.seriesOpen = true) ∧
    ((0x99#8).toNat / 16 ≤ 9 ∧ (0x99#8).toNat % 16 ≤ 9) ∧ 9 < (0xA0#8).toNat / 16 ∧ 9 < (0x0A#8).toNat % 16 ∧
    ((operandState 9 true).operand.count = 9 ∧ (operandState 9 true).operand.seriesOpen = true) ∧
    (operandState 9 false).operand.seriesOpen = false ∧
    ({ operandState 0 true with device := .starting }.device = .starting ∧
      { operandState 0 true with device := .starting }.writesAt 0x10#6 = true) := by decide

theorem witness_OperandDigits :
    (operandState 0 false).writesAt 0x10#6 = true ∧ (operandState 0 false).device = .ready ∧
    (operandState 0 false).operand.seriesOpen = false ∧ (List.replicate 9 (0x99#8)).length ≤ 9 ∧
    ∀ p ∈ List.replicate 9 (0x99#8), p.toNat / 16 ≤ 9 ∧ p.toNat % 16 ≤ 9 := by decide

/-- A read transaction at READOUT on this buffer. -/
def readoutState (b : List Byte) (n : Nat) : State :=
  { portState .read 0x11#6 with readout := { bytes := b, kind := 1, pointer := n } }

theorem witness_ReadoutGoesRound :
    ((readoutState [] 0).readsAt 0x11#6 = true ∧ (readoutState [] 0).readout.bytes = []) ∧
    (readoutState [1#8, 2#8] 1).readout.pointer < (readoutState [1#8, 2#8] 1).readout.bytes.length ∧
    ((readoutState [1#8, 2#8] 2).readout.bytes ≠ [] ∧
      (readoutState [1#8, 2#8] 2).readout.pointer = (readoutState [1#8, 2#8] 2).readout.bytes.length) ∧
    ((readoutState [1#8] 0).readsAt 0x11#6 = true ∧ (readoutState [1#8] 0).readout.bytes ≠ [] ∧
      (readoutState [1#8] 0).readout.pointer = 0) := by decide

theorem witness_EventsAndInterrupt :
    (∀ a ∈ [0x1A#6, 0x1B#6, 0x1C#6, 0x1D#6], (portState .write a).writesAt a = true) ∧
    (portState .write 0x1A#6).device ≠ .starting ∧
    { portState .write 0x1A#6 with device := .starting }.device = .starting := by decide

theorem witness_HostCommandsRefused :
    ({ ready [] with device := .starting }.AtCommand ∧ (Instr.unknownCommand 0x0C#8).wellFormed = true ∧
      hostCode (.unknownCommand 0x0C#8) = some (0x0C#8, false) ∧ hostCode .openDraft = some (0x01#8, true)) ∧
    (0x0C#8 ∉ commandCodes ∧ (ready []).AtCommand ∧ (ready []).device ≠ .starting) ∧
    ((halted []).AtCommand ∧ (halted []).device = .halted) ∧ ((powerdown []).AtCommand ∧
      (powerdown []).device = .powerdown) ∧
    ({ ready [] with pfTaken := true }.AtCommand ∧ { ready [] with pfTaken := true }.device = .ready) ∧
    (7 < (ready [8]).args[0].toNat ∧ (ready [8]).TakesUpkeep ∧ (ready [8]).TakesService) :=
  ⟨⟨rfl, by decide, rfl, rfl⟩, ⟨by decide, rfl, by decide⟩, ⟨rfl, rfl⟩, ⟨rfl, rfl⟩, ⟨rfl, rfl⟩, by decide,
    ready_upkeep _, ready_service _⟩

theorem witness_OpenMakesDraft :
    ((withDraftBody [] .switch).TakesWork ∧ (withDraftBody [] .switch).draft.isSome = true) ∧
    (ready []).TakesWork ∧ (ready []).draft = none ∧
    ((ready [0]).args[0] = 0#8 ∧ (ready [0, 0, 0, 0, 0, 1]).args[5] = GuardMode.require.code) ∧
    ((ready [1, 0, 0, 0, 0, 0, 63]).args[0] = 1#8 ∧ (ready [1, 0, 0, 0, 0, 0, 63]).args[6].toNat = (63 : Fin 64).val ∧
      (ready [1]).cfgen = true) ∧
    ((ready [2, 0, 0, 0, 0, 0, 7]).args[0] = 2#8 ∧
      (ready [2, 0, 0, 0, 0, 0, 7]).args[6].toNat = (7 : Fin 8).val) ∧
    (ready [3]).args[0] = 3#8 ∧ (ready [4]).args[0] = 4#8 ∧ 4 < (ready [5]).args[0].toNat ∧
    { ready [1] with cfgen := false }.cfgen = false :=
  ⟨⟨draft_work _ _, rfl⟩, ready_work _, rfl, by decide⟩

theorem witness_LegAppends :
    let s := { withDraftBody [0, 0, 0, 0, 1, 8, 255, 63, 5, 31] (.posting 0 .skip []) with operand := buffer [0x99#8] }
    s.TakesWork ∧ s.draft = some { tag := 9, body := .posting 0 .skip [] } ∧
    Leg.DescribedBy
      { target := 0, op := .add, source := .immediate { value := -99, scale := 8 }, multiplier := none,
        guard := some { totaliser := 63, relation := .ne, threshold := 31 } } s.args s.operand :=
  ⟨⟨rfl, rfl⟩, rfl, by decide, by decide, ⟨by decide, by decide, by decide, by decide, by decide, by decide⟩,
    by decide, by decide⟩

theorem witness_LegRefused :
    ((ready []).TakesWork ∧ (ready []).draft = none) ∧
    (withDraftBody [64] (.posting 0 .skip [])).TakesWork ∧
    LegMisdescribed (withDraftBody [64] (.posting 0 .skip [])).args ∧
    LegMisdescribed (withDraftBody [0, 3, 3, 0, 0, 0, 32, 255] (.posting 0 .skip [])).args ∧
    ¬LegMisdescribed (withDraftBody [0, 0, 0, 0, 0, 0, 255, 255] (.posting 0 .skip [])).args ∧
    8 ≤ (List.replicate 8 (addLeg 1)).length ∧ (buffer []).count = 0 :=
  ⟨⟨ready_work _, rfl⟩, draft_work _ _, by unfold LegMisdescribed; decide, by unfold LegMisdescribed; decide,
    by unfold LegMisdescribed; decide, by decide, rfl⟩

theorem witness_FieldSetsOneField :
    (withDraftBody [1, 6] (.configureTotaliser 0 TotFields.empty)).TakesWork ∧
    (withDraftBody [0, 2] .switch).args[1] = Kind.balance.code ∧
    (withDraftBody [2, 3] .switch).args[1] = Rounding.carry.code ∧
    (withDraftBody [3, 2] .switch).args[1] = Policy.reject.code ∧
    ((withDraftBody [1, 6] .switch).args[0] = 1#8 ∧ (withDraftBody [1, 6] .switch).args[1].toNat ≤ 6) ∧
    ((withDraftBody [5, 1, 1, 8] .switch).args[2] = 1#8 ∧ (withDraftBody [5, 1, 1, 8] .switch).args[3].toNat ≤ 8 ∧
      (buffer [0x99#8]).accepted = true) ∧
    (withDraftBody [9, 2] .switch).args[1] = EdgeSelect.both.code ∧
    ((withDraftBody [12, 0, 0, 10] .switch).args[3].toNat ≤ 10 ∧ (buffer [0x99#8]).coefficient < 10 ^ 12) ∧
    (withDraftBody [14, 0, 16] .switch).args[1].toNat + 256 * (withDraftBody [14, 0, 16] .switch).args[2].toNat = 4096 ∧
    (∀ k n : Fin 8, (0x8000000000000000#64).getLsbD (8 * k.val + n.val) =
      (withDraftBody [15, 0, 0, 0, 0, 0, 0, 0, 128] (.checkpoint 1)).args[k.val + 1].getLsbD n.val) ∧
    (0x8000000000000000#64) ≠ 0#64 :=
  ⟨draft_work _ _, by decide⟩

theorem witness_FieldRefused :
    ((withDraftBody [] .switch).TakesWork ∧ (withDraftBody [] .switch).draft.map Draft.body = some .switch) ∧
    7 < (withDraftBody [8] (.configureTotaliser 0 TotFields.empty)).args[0].toNat ∧
    ((withDraftBody [5, 1] .switch).args[1] = 1#8 ∧ (buffer []).accepted = false) ∧
    (withDraftBody [7] (.configureChannel 0 ChannelFields.empty)).args[0].toNat < 8 ∧
    ((withDraftBody [12, 0, 0, 10] .switch).args[0] = 12#8 ∧
      10 ^ 12 ≤ (buffer [0#8, 0#8, 0#8, 0#8, 0#8, 0#8, 1#8]).coefficient) ∧
    ∀ k : Fin 8, (withDraftBody [15] (.checkpoint 1)).args[k.val + 1] = 0#8 :=
  ⟨⟨draft_work _ _, rfl⟩, by decide⟩

/-- A draft ready for SUBMIT, with the queue holding these items. -/
def submitState (items : List QueueItem) (n : Option Word) : State :=
  { withDraftBody [] (.posting 0 .skip [addLeg 1]) with
    queue := { items := items, nextSeq := n, spaceWanted := false } }

theorem witness_SubmitHandsOver :
    let s := submitState (List.replicate 15 (item 1 .switch)) (some 0xFFFFFFFF#32)
    s.TakesWork ∧ s.pfTaken = false ∧ s.draft.isSome = true ∧ s.queue.nextSeq = some 0xFFFFFFFF#32 ∧
    s.queue.items.length < 16 ∧ s.queue.legsHeld + 1 ≤ 48 ∧
    (∀ epoch mode, Body.posting 0 .skip [addLeg 1] ≠ .posting epoch mode []) ∧
    (Body.posting 0 .skip [addLeg 1]).isConfiguration ≠ true ∧ Body.posting 0 .skip [addLeg 1] ≠ .switch :=
  ⟨⟨rfl, rfl⟩, rfl, rfl, rfl, by decide, by decide, by simp, by decide, by decide⟩

theorem witness_SubmitRefused :
    ((ready []).TakesWork ∧ (ready []).draft = none) ∧
    (withDraftBody [] (.posting 0 .skip [])).draft.map Draft.body = some (.posting 0 .skip []) ∧
    ((Body.configureChannel 0 ChannelFields.empty).isConfiguration = true ∧
      { ready [] with cfgen := false }.cfgen = false) ∧
    (submitState [] none).queue.nextSeq = none ∧ { submitState [] none with pfTaken := true }.pfTaken = true ∧
    16 ≤ (submitState (List.replicate 16 (item 1 .switch)) (some 1)).queue.items.length ∧
    48 < (submitState (List.replicate 6 (item 1 (.posting 0 .skip (List.replicate 8 (addLeg 1))))) (some 1)).queue.legsHeld + 1 ∧
    (submitState (List.replicate 6 (item 1 (.posting 0 .skip (List.replicate 8 (addLeg 1))))) (some 1)).queue.legsHeld ≤ 48 :=
  ⟨⟨ready_work _, rfl⟩, rfl, by decide⟩

theorem witness_DiscardEmptiesDraft :
    ((ready []).TakesAcks ∧ (ready []).draft = none) ∧
    ({ withDraftBody [] .switch with device := .halted }.TakesAcks ∧ (withDraftBody [] .switch).draft.isSome = true) :=
  ⟨⟨ready_acks _, rfl⟩, ⟨rfl, .inr rfl⟩, rfl⟩

theorem witness_CancelWithdraws :
    ((ready []).TakesService ∧ ∀ q ∈ (ready []).queue.items, q.seq ≠ sequenceArg (ready []).args) ∧
    ({ queued .switch with args := bytes [1] }.TakesService ∧
      (queued .switch).queue.items = [] ++ item 1 .switch :: [] ∧
      (item 1 .switch).seq = sequenceArg (bytes [1]) ∧ (item 1 .switch).active = false) :=
  ⟨⟨ready_service _, by decide⟩, ⟨rfl, rfl, rfl⟩, rfl, by decide, rfl⟩

theorem witness_WritePendingEntry :
    (ready [32]).TakesWork ∧ 31 < (ready [32]).args[0].toNat ∧ 1 < (ready [0, 2]).args[1].toNat ∧
    (ready [31]).args[0].toNat = (31 : Fin 32).val ∧ (ready [31, 0]).args[1] = 0#8 ∧
    ((ready [31, 1, 1, 10]).args[1] = 1#8 ∧ (ready [31, 1, 1, 10]).args[2].toNat ≤ 1 ∧
      (ready [31, 1, 1, 10]).args[3].toNat ≤ 10) ∧
    (ready []).constants.lock = none ∧ (buffer [0x99#8]).accepted = true ∧ (buffer [0x99#8]).coefficient < 10 ^ 12 ∧
    (buffer []).accepted = false :=
  ⟨ready_work _, by decide⟩

theorem witness_AckStatusClearsFlags :
    (ready [64]).AtCommand ∧ (ready [64]).device = .ready ∧ 63 < (ready [64]).args[0].toNat ∧
    (ready [63]).args[0].toNat = (63 : Fin 64).val ∧ (powerdown []).device = .powerdown ∧ State.reset.device = .starting :=
  ⟨rfl, rfl, by decide, by decide, rfl, rfl⟩

/-- Slot 3 FILLED, with this mark. -/
def slotState (l : List Nat) (inFlight : Bool) : State :=
  { ready l with checkpoints := { (ready l).checkpoints with slots := ((ready l).checkpoints.slots.set 3
      { content := some { number := 1, completion := 1, boot := 1, epoch := 0, generation := 0, entries := [] },
        pinned := false, inFlight := inFlight }) } }

theorem witness_PopAndPins :
    ((ready []).TakesUpkeep ∧ (ready []).journal.entries = []) ∧
    { ready [] with journal := { counter := 2, head := 1, entries := [JournalEntry.damagedAt 1] } }.journal.entries =
      JournalEntry.damagedAt 1 :: [] ∧
    (halted [4]).TakesUpkeep ∧ 3 < (halted [4]).args[0].toNat ∧
    ((slotState [3] true).TakesUpkeep ∧ (slotState [3] true).args[0].toNat = (3 : Fin 4).val ∧
      (slotState [3] true).checkpoints.slots[3].content.isSome = true ∧
      (slotState [3] true).checkpoints.slots[3].inFlight = true) ∧
    (slotState [3] false).checkpoints.slots[3].inFlight = false ∧
    (slotState [2] false).checkpoints.slots[2].content = none :=
  ⟨⟨ready_upkeep _, rfl⟩, rfl, halted_upkeep _, by decide, ⟨⟨rfl, .inl ⟨rfl, rfl⟩⟩, by decide, by decide, by decide⟩,
    by decide, by decide⟩

theorem witness_GateOpenByState :
    (∀ r, (channelState [0] r).TakesUpkeep) ∧
    (channelState [0] (counting 0)).args[0].toNat = (0 : Fin 8).val ∧
    (ChannelRun.fresh false).state = .disabled ∧
    ((ChannelRun.fresh true).state = .idle ∧ (ChannelRun.fresh true).configInFlight = false ∧
      { ChannelRun.fresh true with configInFlight := true }.configInFlight = true) ∧
    (counting 0).state = .counting ∧ { counting 0 with state := .faulted }.state = .faulted :=
  ⟨channel_upkeep _, by decide⟩

theorem witness_GateCloseByState :
    (channelState [0] (counting 0)).TakesUpkeep ∧ (channelState [0] (counting 0)).args[0].toNat = (0 : Fin 8).val ∧
    ((channelState [0] (counting 0)).channels[0].run.state = .counting ∧
      (channelState [0] (counting 0)).channels[0].run.unfolded = 0 ∧
      (channelState [0] (counting 0)).channels[0].run.inFlight = none) ∧
    0 < (channelState [0] (counting 1)).channels[0].run.unfolded ∧
    (channelState [0] (ChannelRun.fresh true)).channels[0].run.state = .idle ∧
    (channelState [0] (ChannelRun.fresh false)).channels[0].run.state = .disabled :=
  ⟨channel_upkeep _ _, by decide⟩

theorem witness_FoldNowRaisesRequest :
    (channelState [0] (counting 1)).TakesService ∧ (channelState [0] (counting 1)).args[0].toNat = (0 : Fin 8).val ∧
    (channelState [0] (ChannelRun.fresh false)).channels[0].run.state = .disabled ∧
    ((channelState [0] (counting 1)).channels[0].run.state ≠ .disabled ∧
      (channelState [0] (counting 1)).channels[0].run.state ≠ .faulted ∧
      0 < (channelState [0] (counting 1)).channels[0].run.unfolded ∧
      (channelState [0] (counting 1)).channels[0].run.inFlight = none) ∧
    (channelState [0] (counting 0)).channels[0].run.unfolded = 0 ∧
    (channelState [0] { counting 1 with inFlight := some 1 }).channels[0].run.inFlight.isSome = true :=
  ⟨channel_service _ _, by decide⟩

theorem witness_ClearFaultByGate :
    (channelState [0] { counting 1 with state := .faulted }).TakesService ∧
    (let r := (channelState [0] { counting 1 with state := .faulted }).channels[0].run
     r.state = .faulted ∧ r.gateOpen = true) ∧
    (let r := (channelState [0] { counting 1 with state := .faulted, gateOpen := false }).channels[0].run
     r.state = .faulted ∧ r.gateOpen = false ∧ 0 < r.unfolded) ∧
    (let r := (channelState [0] { counting 0 with state := .faulted, gateOpen := false }).channels[0].run
     r.state = .faulted ∧ r.gateOpen = false ∧ r.unfolded = 0) ∧
    (channelState [0] (counting 1)).channels[0].run.state ≠ .faulted :=
  ⟨channel_service _ _, by decide⟩

theorem witness_AckStrayClearsCount :
    (channelState [0] (ChannelRun.fresh false)).TakesUpkeep ∧
    (channelState [0] (ChannelRun.fresh false)).args[0].toNat = (0 : Fin 8).val :=
  ⟨channel_upkeep _ _, by decide⟩

theorem witness_EdgeCounted :
    (channelState [] (counting 65535)).EdgeAccepted 0 true 0 ∧
    (channelState [] { counting 0 with state := .draining, gateOpen := false, stray := 65535 }).EdgeAccepted 0 true 0 ∧
    ¬(channelState [] (counting 0)).EdgeAccepted 0 false 0 ∧
    (channelState [] (counting 65535)).channels[0].run.unfolded = 65535 :=
  ⟨⟨rfl, .inl rfl, rfl, by decide, .inr (.inl ⟨by decide, rfl⟩), .inl (by decide)⟩,
    ⟨rfl, .inl rfl, rfl, by decide, .inr (.inl ⟨by decide, rfl⟩), .inl (by decide)⟩,
    fun h => absurd h.2.2.2.2.1 (by decide), by decide⟩

theorem witness_LoadsCopyRecords :
    (ready [63]).TakesLoads ∧ (powerdown []).TakesLoads ∧ (ready [63]).args[0].toNat = (63 : Fin 64).val ∧
    63 < (ready [64]).args[0].toNat ∧
    ((ready [31, 1]).args[0].toNat = (31 : Fin 32).val ∧ (ready [31, 1]).args[1].toNat ≤ 1) ∧
    31 < (ready [32]).args[0].toNat ∧ 7 < (ready [8]).args[0].toNat ∧
    (queued .switch).queue.items[0]? = some (item 1 .switch) ∧ 15 < (ready [16]).args[0].toNat ∧
    (ready [15]).queue.items.length ≤ (ready [15]).args[0].toNat ∧
    ((slotState [3, 7] false).args[1].toNat = (7 : Fin 8).val ∧
      (slotState [3, 7] false).checkpoints.slots[3].content.isSome = true) ∧
    (withDraftBody [] .switch).draft.isSome = true :=
  ⟨ready_loads _, ⟨rfl, by decide⟩, by decide, by decide, by decide, by decide, by decide, rfl, by decide, by decide,
    by decide, rfl⟩

theorem witness_RecordForms : (999999999999999999 : Int).natAbs < 10 ^ 18 ∧ 15 < 16 := by decide

theorem witness_LinesTaken :
    (ready []).powered = true ∧ { ready [] with startup := some .waiting }.startup = some .waiting ∧
    (ready []).startup ≠ some .waiting ∧ (ready []).pfail = false ∧ State.reset.device = .starting ∧
    ((ready []).device = .ready ∧ (ready []).pfTaken = false ∧
      { ready [] with engine := { (ready []).engine with state := .persisting } }.engine.state = .persisting) ∧
    ((halted []).device = .halted ∧ (halted []).pfTaken = false) ∧
    ((ready []).engine.state ≠ .persisting ∧ ∀ c : Fin 8, (ready []).channels[c].run.unfolded = 0) := by decide

theorem witness_ResetsAndSupply :
    ((ready []).TakesUpkeep ∧ (ready []).engine.state ≠ .persisting) ∧
    ((after .take (queued .switch)).TakesUpkeep ∧ (after .take (queued .switch)).engine.state = .persisting) ∧
    ((ready []).powered = true ∧ (ready []).resetPin = false ∧ (ready []).commit.isNone = true ∧
      (ready []).startup.isNone = true) ∧
    (after .take (queued .switch)).commit.isSome = true ∧ State.reset.startup.isSome = true ∧
    { ready [] with resetPin := true }.resetPin = true ∧ { ready [] with powered := false }.powered = false :=
  ⟨⟨ready_upkeep _, by decide⟩, ⟨⟨by unfold State.AtCommand; decide, .inl (by decide)⟩, by decide⟩, by decide,
    by decide, rfl, rfl, rfl⟩

theorem ready_free (l : List Nat) : (ready l).EngineFree := ⟨rfl, rfl, rfl, rfl, rfl, rfl⟩
theorem queued_free (b : Body) : (queued b).EngineFree := ⟨rfl, rfl, rfl, rfl, rfl, rfl⟩
theorem requested_free : requested.EngineFree := ⟨rfl, rfl, rfl, rfl, rfl, rfl⟩
theorem ready_no_offer (l : List Nat) (q : QueueItem) : ¬(ready l).Offers q := fun h => by cases h.1
theorem requested_no_offer (q : QueueItem) : ¬requested.Offers q := fun h => by cases h.1

/-- A part with a fold request pending and a head waiting, after `n` folds taken over it. -/
def contested (n : Nat) : State :=
  { requested with
    queue := (queued .switch).queue
    engine := { requested.engine with fairness := n } }

theorem witness_TakeChooses :
    ((ready []).EngineFree ∧ (∀ q, ¬(ready []).Offers q) ∧ ∀ c : Fin 8, (ready []).channels[c].run.request = false) ∧
    ((queued .switch).EngineFree ∧ (queued .switch).Offers (item 1 .switch) ∧
      ∀ c : Fin 8, (queued .switch).channels[c].run.request = false) ∧
    (requested.EngineFree ∧ (∃ c : Fin 8, requested.channels[c].run.request = true) ∧
      (∀ q, ¬requested.Offers q) ∧ requested.engine.fairness < 4) ∧
    (∀ n, (contested n).EngineFree ∧ (contested n).Offers (item 1 .switch) ∧
      (∃ c : Fin 8, (contested n).channels[c].run.request = true) ∧ (contested n).engine.fairness = n) ∧
    (after .take (contested 4)).queue.items.map QueueItem.active = [true] ∧
    (after .take (contested 3)).queue.items.map QueueItem.active = [false] :=
  ⟨⟨ready_free _, ready_no_offer _, by decide⟩, ⟨queued_free _, ⟨rfl, rfl⟩, by decide⟩,
    ⟨requested_free, ⟨0, by decide⟩, requested_no_offer, by decide⟩,
    fun _ => ⟨⟨rfl, rfl, rfl, rfl, rfl, rfl⟩, ⟨rfl, rfl⟩, ⟨0, rfl⟩, rfl⟩, by decide⟩

theorem witness_HeadTaken :
    ¬(halted []).EngineFree ∧ (queued .switch).EngineFree ∧
    (queued .switch).queue.items = item 1 .switch :: [] ∧ (item 1 .switch).active = false ∧
    (∀ c : Fin 8, (queued .switch).channels[c].run.request = false) :=
  ⟨fun h => (by cases h.2.2.2.1), queued_free _, rfl, rfl, by decide⟩

theorem witness_FoldTaken :
    requested.EngineFree ∧ requested.FirstInOrder 0 ∧ (∀ q, ¬requested.Offers q) ∧
    requested.totals[1].data.state = .active ∧
    (setChannel 0 { config := { nozzle with target := 5 }, run := counting 3 } requested).totals[5].data.state ≠ .active :=
  ⟨requested_free, ⟨by decide, 0, by decide, by decide, by simp⟩, requested_no_offer, by decide, by decide⟩

theorem witness_CarryKeepsFractions :
    { active with rounding := .carry, residue := 99999999 }.rounding = Rounding.carry ∧
    (0 : Int) ≤ (⟨2000000002, 9⟩ : Dec).value ∧ (99999999 : Nat) < 100000000 := by decide

theorem witness_ExactAlignment :
    Dec.alignExact ⟨1250, 2⟩ 1 = some 125 ∧ (1 < (⟨1255, 2⟩ : Dec).scale ∧ 1255 % 10 ^ (2 - 1) ≠ 0) ∧
    10 ^ 18 ≤ (1000000000000 : Int).natAbs * 10 ^ (6 - 0) := by decide

theorem witness_ComparisonExact :
    { addLeg 1 with guard := some { totaliser := 0, relation := .lt, threshold := 0 } }.guard =
      some { totaliser := 0, relation := .lt, threshold := 0 } ∧
    ((Vector.replicate 32 (some ⟨1, 0⟩) : Bank))[(0 : Fin 32)] = some ⟨1, 0⟩ := by decide

theorem witness_ChangeChecked :
    (active.kind = .balance ∧ active.policy = .reject) ∧
    ({ active with kind := .monotonic }.kind ≠ .balance ∧ ∃ d, Change.set ⟨1, 0⟩ = .set d) ∧
    (∃ d : Dec, Change.delta ⟨-1, 0⟩ = .delta d ∧ d.value < 0) ∧
    Record.Lawful { active with kind := .monotonic, policy := .wrap, value := 999999999999999999 } ∧
    (999999999999999999 : Int) <
      (candidate { active with kind := .monotonic, policy := .wrap, value := 999999999999999999 } (.delta ⟨1, 0⟩)).1 :=
  ⟨by decide, ⟨by decide, _, rfl⟩, ⟨_, rfl, by decide⟩,
    ⟨by decide, by simp [limitLawful, active, Record.unused], by simp [limitLawful, active, Record.unused],
      by decide, by decide, by decide, by decide⟩, by decide⟩

theorem witness_LegTestedInOrder :
    (withTotals (ready [])).working[(addLeg 5).target].state = .active ∧
    (withTotals (ready [])).working[{ addLeg 5 with target := 2 }.target].state ≠ .active ∧
    (addLeg 5).guard = none ∧ (addLeg 5).multiplier = none ∧ (addLeg 5).source = .immediate ⟨5, 0⟩ ∧
    (Vector.replicate 32 none : Bank)[(3 : Fin 32)] = none := by decide

/-- The working copies that each leg meets. -/
def legCopies (s : State) (mode : GuardMode) (legs : List Leg) : Nat → Working
  | 0 => s.working
  | i + 1 =>
    let work := legCopies s mode legs i
    match legs[i]? with
    | some l =>
      match evalLeg s.constants.active mode work l with
      | .ok x => takeEffect work x.effect
      | .error _ => work
    | none => work

theorem legCopies_work (s : State) (mode : GuardMode) (legs : List Leg) :
    s.LegsWork mode legs (legCopies s mode legs) := by
  refine ⟨fun t => by simp [legCopies, State.working], fun i l x hl hx t => ?_⟩
  rw [← takeEffect_getElem]
  simp only [legCopies, hl, hx]

/-- Two legs that pass, and two of which the second names a target that is not ACTIVE. -/
def passingLegs : List Leg := [addLeg 5, addLeg 6]
def failingLegs : List Leg := [addLeg 5, { addLeg 6 with target := 2 }]

/-- What leg `i` of these gives on the working copies it meets. -/
def legOutcome (legs : List Leg) (i : Nat) : Option (Except Reason LegResult) :=
  let s := queued (.posting 0 .skip legs)
  legs[i]?.map fun l => evalLeg s.constants.active .skip (legCopies s .skip legs i) l

/-- The reason for which a leg fails, where it does. -/
def reasonOf : Except Reason LegResult → Option Reason
  | .ok _ => none
  | .error r => some r

theorem witness_PostingAllOrNothing :
    (queued (.posting 0 .skip passingLegs)).LegsWork .skip passingLegs
      (legCopies (queued (.posting 0 .skip passingLegs)) .skip passingLegs) ∧
    (item 1 (.posting 1 .skip [{ addLeg 1 with multiplier := some 0 }])).draft.body =
      .posting 1 .skip [{ addLeg 1 with multiplier := some 0 }] ∧
    (1 : Half) ≠ (ready []).constants.epoch ∧
    [{ addLeg 1 with multiplier := some 0 }] = [] ++ { addLeg 1 with multiplier := some 0 } :: [] ∧
    { addLeg 1 with multiplier := some 0 }.multiplier ≠ none ∧ (0 : Half) = (ready []).constants.epoch ∧
    [legOutcome passingLegs 0, legOutcome passingLegs 1].map (Option.map reasonOf) = [some none, some none] ∧
    [legOutcome failingLegs 0, legOutcome failingLegs 1].map (Option.map reasonOf) =
      [some none, some (some .notActive)] :=
  ⟨legCopies_work _ _ _, by decide⟩

/-- The fields that bring an UNUSED record to ACTIVE with everything else as it stands. -/
def activate : TotFields := { TotFields.empty with active := some true }

/-- The fields that also set a value, UPPER at 0. -/
def valued (v : Int) : TotFields :=
  { activate with initial := some { value := v, scale := 0 }, upper := some (some { value := 0, scale := 0 }) }

/-- The record they result in. -/
def valuedRecord (v : Int) : Record := { active with value := v, upper := some 0 }

theorem suits_activate (r n : Record) (hk : n.kind = .balance) (hr : n.rounding ≠ .carry) (hp : n.policy ≠ .wrap)
    (hl : n.lower = none) (hs : n.scale = r.scale) : ∀ f : TotFields, f.active = some true → f.Suits r n :=
  fun _ hf => ⟨fun h => hr h.1, fun h => hp h.1, fun h => hp h.1, fun h => absurd hl h,
    fun _ _ _ h => (by rw [hl] at h; cases h), fun _ _ _ => hk, fun h => absurd hs h, .inr (.inr hf)⟩

theorem witness_TotaliserConfigured :
    { ready [] with cfgen := false }.cfgen = false ∧
    ((ready []).cfgen = true ∧ { TotFields.empty with active := some false }.active = some false) ∧
    (requested.channels[0].config.enabled = true ∧ requested.channels[0].config.target = 1) ∧
    (activate.active ≠ some false ∧ activate.Results Record.unused active ∧ activate.Suits Record.unused active ∧
      active.Within ∧ active.revision = Record.unused.revision ∧ Record.unused.Lawful ∧
      Body.LimitsFit (.configureTotaliser 0 activate)) ∧
    (∀ n, TotFields.empty.Results Record.unused n → ¬TotFields.empty.Suits Record.unused n) ∧
    ((valued 1).Results Record.unused (valuedRecord 1) ∧ (valued 1).Suits Record.unused (valuedRecord 1) ∧
      ¬(valuedRecord 1).Within ∧ (valuedRecord 0).Within) ∧
    (({ value := 25, scale := 1 } : Dec).alignExact 2 = some 250 ∧
      ({ value := 25, scale := 1 } : Dec).alignExact 0 = none) :=
  ⟨rfl, by decide, by decide,
    ⟨by decide, ⟨rfl, rfl, rfl, rfl, rfl, rfl, rfl, by decide, rfl⟩,
      suits_activate Record.unused active rfl (by decide) (by decide) rfl rfl _ rfl, by unfold Record.Within; decide, rfl,
      ⟨by decide, by simp [limitLawful, Record.unused], by simp [limitLawful, Record.unused],
        by decide, by decide, by decide, by decide⟩, fun d h => (by cases h), fun d h => (by cases h)⟩,
    fun n _ h => by rcases h.2.2.2.2.2.2.2 with h | h | h <;> revert h <;> decide,
    ⟨⟨rfl, rfl, rfl, rfl, rfl, ⟨rfl, rfl⟩, rfl, by decide, rfl⟩,
      suits_activate Record.unused (valuedRecord 1) rfl (by decide) (by decide) rfl rfl _ rfl,
      by unfold Record.Within; decide,
      by unfold Record.Within; decide⟩, by decide⟩

/-- R143: SCALE raised from 1 to 2 with the value given 2.50: the effect stands at the old scale, 25 at scale 1. -/
theorem test_effect_at_old_scale :
    configureEffect 0 { active with scale := 1 } { active with scale := 2, value := 250 } =
      { target := 0, value := 25, residue := 0, scale := 1, mark := .none } := by decide

theorem witness_ChannelConfigured :
    (item 1 (.configureChannel 0 ChannelFields.empty)).draft.body = .configureChannel 0 ChannelFields.empty ∧
    { ready [] with cfgen := false }.cfgen = false ∧
    ((ready []).cfgen = true ∧ (ready []).channels[0].run.state = .disabled ∧ nozzle.enabled = true ∧
      (ready []).totals[nozzle.target].data.state ≠ .active) ∧
    (requested.channels[0].run.state ≠ .disabled ∧ requested.channels[0].run.state ≠ .idle) ∧
    (ready []).channels[0].config.enabled = false := by decide

theorem witness_SwitchAndCheckpointEvaluated :
    (item 1 .switch).draft.body = .switch ∧ (item 1 (.checkpoint 1)).draft.body = .checkpoint 1 ∧
    ¬(∀ i : Fin 4, (ready []).checkpoints.slots[i].content.isSome = true ∧
      (ready []).checkpoints.slots[i].pinned = true) ∧
    (let slots : Vector Slot 4 := Vector.replicate 4
      { content := some ⟨1, 1, 1, 0, 0, []⟩, pinned := true, inFlight := false }
     ∀ i : Fin 4, slots[i].content.isSome = true ∧ slots[i].pinned = true) := by decide

/-- The working copies that each covered channel meets. -/
def foldCopies (s : State) (covered : List (Fin 8)) : Nat → Working
  | 0 => s.working
  | i + 1 =>
    let work := foldCopies s covered i
    match covered[i]? with
    | some c =>
      match foldYields work[s.channels[c].config.target] s.channels[c].config s.channels[c].run.unfolded with
      | .ok a =>
        work.set s.channels[c].config.target
          { work[s.channels[c].config.target] with value := a.value, residue := a.residue }
      | .error _ => work
    | none => work

theorem given_getElem (work : Working) (u t : Fin 64) (v : Int) (q : Nat) :
    (work.set u { work[u] with value := v, residue := q })[t] =
      if t = u then { work[t] with value := v, residue := q } else work[t] := by
  by_cases ht : t = u
  · subst ht; simp
  · have : u.val ≠ t.val := fun h => ht (Fin.ext h.symm)
    simp [ht, this]

theorem foldCopies_work (s : State) (covered : List (Fin 8)) : s.FoldsWork covered (foldCopies s covered) := by
  refine ⟨fun t => by simp [foldCopies, State.working], fun i c hc t => ⟨fun a ha => ?_, fun r hr => ?_⟩⟩
  · simp only [foldCopies, hc, ha]
    exact given_getElem _ _ _ _ _
  · simp only [foldCopies, hc, hr]

/-- A fold of channel 0 refused beside one of channel 1 that is placed. -/
def emergency : State :=
  setChannel 0 { config := { nozzle with target := 5 }, run := counting 3 }
    (setChannel 1 { config := nozzle, run := counting 4 } (withTotals (ready [])))

theorem witness_EmergencyFoldTaken :
    (requested.powered = true ∧ requested.pfail = false ∧ requested.device = .ready ∧ requested.pfTaken = false ∧
      requested.engine.state ≠ .persisting ∧ requested.journal.entries.length ≤ 31 ∧
      ∃ c : Fin 8, 0 < requested.channels[c].run.unfolded) ∧
    emergency.FoldsWork [0, 1] (foldCopies emergency [0, 1]) ∧
    (List.finRange 8).filter (fun c => decide (0 < emergency.channels[c].run.unfolded)) = [0, 1] ∧
    (prepareEmergency emergency).folds.map FlightFold.placed = [false, true] ∧
    (prepareEmergency requested).folds.map FlightFold.placed = [true] ∧
    (prepareEmergency { emergency with channels := emergency.channels.set 1 ⟨nozzle, counting 0⟩ }).folds.map
      FlightFold.placed = [false] :=
  ⟨by decide, foldCopies_work _ _, by decide⟩

theorem witness_CommitSteps :
    (let s := after .take (queued .switch)
     s.powered = true ∧ s.resetPin = false ∧ s.commit.map Commit.stage = some .intent ∧
      s.commit.map Commit.second = some false ∧ s.pfTaken = false ∧ s.engine.deferredReset = false) ∧
    (retiring (after .take (queued .switch))).commit.map Commit.stage = some .retire ∧
    (after .attemptFailure (after .take (queued .switch))).commit.map Commit.second = some true ∧
    ({ intent := { number := 0, tables := [.ring (JournalEntry.damagedAt 0)], control := ControlBlock.formatted,
                   controlCopy := .b }
       second := false, stage := .tables [.ring (JournalEntry.damagedAt 0)] } : Commit).intent.tables ≠ [] := by decide

/-- A flight of a queued item, of a fold and of the emergency fold, at its commit's last step. -/
theorem flight_at_retire (i : FlightItem) :
    ∃ c f, (flight i (ready [])).AtRetire c f ∧ f.item = i ∧ f.prepared.records = [] ∧ f.prepared.bank = none ∧
      f.prepared.channelConfig = none ∧ f.prepared.capture = none :=
  ⟨_, _, ⟨rfl, rfl, rfl, rfl, rfl⟩, rfl, rfl, rfl, rfl, rfl⟩

theorem witness_PublishedItem :
    (∃ c f, (flight (.queued (item 1 .switch)) (ready [])).AtRetire c f ∧ f.item = .queued (item 1 .switch) ∧
      (f.prepared.records.map Prod.fst).Nodup) ∧
    (flight (.queued (item 1 .switch)) (ready [])).pfTaken = false ∧
    (flight (.queued (item 1 .switch)) (ready [])).engine.deferredReset = false :=
  ⟨⟨_, _, ⟨rfl, rfl, rfl, rfl, rfl⟩, rfl, List.nodup_nil⟩, rfl, rfl⟩

/-- A fold of channel 0 in flight, placed or not. -/
def foldFlight (placed : Bool) (r : ChannelRun) : State :=
  let s := channelState [] { r with inFlight := some 3 }
  retiring (beginFlight (.fold 0)
    { s.prepare (s.blankEntry .fold) with folds := [{ data := ⟨0, 3, false⟩, placed := placed }] } s)

theorem witness_PublishedFold :
    (∀ placed r, ∃ c f x, (foldFlight placed r).AtRetire c f ∧ f.item = .fold 0 ∧ f.prepared.folds = [x] ∧
      x.data.channel = 0 ∧ x.placed = placed ∧ (f.prepared.records.map Prod.fst).Nodup ∧ f.prepared.bank = none ∧
      f.prepared.channelConfig = none ∧ f.prepared.capture = none) ∧
    (foldFlight true (counting 0)).pfTaken = false ∧ (foldFlight true (counting 0)).engine.deferredReset = false ∧
    (foldFlight true { counting 0 with state := .draining, gateOpen := false }).channels[0].run.state = .draining ∧
    65535 < (foldFlight false (counting 65533)).channels[0].run.unfolded + 3 :=
  ⟨fun _ _ => ⟨_, _, _, ⟨rfl, rfl, rfl, rfl, rfl⟩, rfl, rfl, rfl, rfl, List.nodup_nil, rfl, rfl, rfl⟩,
    rfl, rfl, by decide, by decide⟩

theorem witness_AfterPublication :
    (∃ c f, (flight .emergency (ready [])).AtRetire c f ∧ f.item = .emergency ∧
      (f.prepared.folds.map fun x => x.data.channel).Nodup ∧ f.prepared.channelConfig = none) ∧
    (∃ c f, { flight (.queued (item 1 .switch)) (ready []) with pfTaken := true }.AtRetire c f ∧
      f.item = .queued (item 1 .switch)) ∧
    (∃ c f, (flight (.fold 0) { ready [] with
        engine := { (ready []).engine with deferredReset := true } }).AtRetire c f ∧ f.item ≠ .emergency) ∧
    (∃ c : Fin 8, 0 < requested.channels[c].run.unfolded) :=
  ⟨⟨_, _, ⟨rfl, rfl, rfl, rfl, rfl⟩, rfl, List.nodup_nil, rfl⟩, ⟨_, _, ⟨rfl, rfl, rfl, rfl, rfl⟩, rfl⟩,
    ⟨_, _, ⟨rfl, rfl, rfl, rfl, rfl⟩, by simp⟩, by decide⟩

/-- A format whose last write has failed once. -/
def failedFormat : State :=
  { State.reset with startup := some (.writing
    { settle := [.control .b ControlBlock.formatted], retried := true, control := ControlBlock.formatted, copy := .a,
      settled := ControlBlock.formatted, settledCopy := .a, action := .formatted }) }

theorem witness_StartupSteps :
    (∀ settle retried, (writing settle retried).powered = true ∧ (writing settle retried).resetPin = false ∧
      (writing settle retried).startup.isSome = true) ∧
    ([NvWrite.noIntent, .noIntent] = .noIntent :: .noIntent :: [] ∧ [NvWrite.noIntent] = [.noIntent]) ∧
    StartupAction.clean ≠ .formatted ∧
    (failedFormat.startup.isSome = true ∧ (after (.startupWriteCompletion false) failedFormat).device = .halted ∧
      (after (.startupWriteCompletion false) failedFormat).current.control = .a) :=
  ⟨fun _ _ => ⟨rfl, rfl, rfl⟩, ⟨rfl, rfl⟩, by decide, by decide⟩

/-- A formatted array with both control blocks in place, and this intent. -/
def arrayWith (i : IntentArea) : NvArray := { NvArray.formatted with intent := i }

/-- An intent of this number that writes nothing but its control block. -/
def intentOf (n : Word) : Intent :=
  { number := n, tables := [], control := { ControlBlock.formatted with counter := n + 1 }, controlCopy := .b }

theorem witness_StartupChooses :
    (Pair.choose 5 (⟨.good (.number 3) active, .good .format Record.unused⟩ : Pair Record) = .copy .a ∧
      Pair.choose 5 (⟨.bad, .good (.number 5) active⟩ : Pair Record) = .neither) ∧
    ((arrayWith .empty).controlA.content = some ControlBlock.formatted ∧
      (arrayWith .empty).controlB.content = some ControlBlock.formatted) ∧
    { NvArray.formatted with controlA := .bad, controlB := .bad }.controlA.content = none ∧
    { NvArray.formatted with controlB := .bad }.controlA.content = some ControlBlock.formatted ∧
    { NvArray.formatted with controlB := .bad }.controlB.content = none ∧
    Pair.choose 5 (⟨.good (.number 3) 1, .good (.number 4) 2⟩ : Pair Nat) = .copy .b ∧
    Pair.choose 5 (⟨.good (.number 3) 1, .good (.number 3) 1⟩ : Pair Nat) = .copy .a ∧
    (arrayWith (.held (intentOf 1))).chooseControl = some (ControlBlock.formatted, .a) ∧
    ((intentOf 1).number = ControlBlock.formatted.counter ∧ (intentOf 2).number ≠ ControlBlock.formatted.counter ∧
      ((intentOf 2).number - ControlBlock.formatted.counter).toNat < 2 ^ 31 ∧
      2 ^ 31 ≤ ((intentOf 0).number - ControlBlock.formatted.counter).toNat) ∧
    (planStartup (arrayWith .bad)).action = .intentDiscarded :=
  ⟨by decide, ⟨rfl, rfl⟩, rfl, rfl, rfl, by decide, by decide, by decide, by decide, by decide⟩

theorem witness_CutCommitSettles : (arrayWith .empty).Awaits (intentOf 1) :=
  ⟨ControlBlock.formatted, .a, by decide, rfl, rfl, rfl⟩

/-- A part in READY with one TAKE waiting, on which the laws hold and which goes on. -/
def waiting : State :=
  { ready [] with
    pending := [.take]
    journal := { counter := 1, head := 1, entries := [] }
    checkpoints := { (ready []).checkpoints with counter := 1 } }

theorem waiting_steps : step waiting = .next { waiting with pending := [] } := by
  have hc : { waiting with pending := [] }.choice = none := by decide
  have he : step waiting = exec .take { waiting with pending := [] } := rfl
  rw [he]
  simp only [exec, execTake, hc]

theorem formatted_home (t : Fin 64) :
    NvArray.formatted.home[t] = ⟨.good .format Record.unused, .good .format Record.unused⟩ := by
  simp [NvArray.formatted]

theorem unused_lawful : Record.unused.Lawful :=
  ⟨by decide, by simp [limitLawful, Record.unused], by simp [limitLawful, Record.unused], by decide, by decide,
    by decide, by decide⟩

theorem formatted_config_lawful : ChannelConfig.formatted.Lawful := ⟨by decide, by decide⟩

theorem witness_PhaseLawKept : PhaseLaw waiting ∧ step waiting = .next { waiting with pending := [] } :=
  ⟨fun h => (by cases h), waiting_steps⟩

theorem witness_TotalsLawKept : TotalsLaw waiting := by
  refine ⟨fun t => ?_, fun f h => (by cases h), ⟨fun t => ?_, fun i h => (by cases h)⟩, fun c h => (by cases h),
    fun j h => (by cases h), by decide, fun d h => (by cases h), fun q h => (by cases h)⟩
  · have e : waiting.totals[t] = ⟨Record.unused, false, false, false⟩ := by
      simp [waiting, ready, State.reset, State.cleared]
    rw [e]
    exact unused_lawful
  · have e : waiting.nv.home[t] = ⟨.good .format Record.unused, .good .format Record.unused⟩ := formatted_home t
    rw [e]
    constructor <;> intro r hr <;> cases hr <;> exact unused_lawful

theorem witness_QueueLawKept : QueueLaw waiting :=
  ⟨by decide, by decide, fun q h => (by cases h), List.nodup_nil, fun n _ q h => (by cases h)⟩

theorem witness_JournalLawKept : JournalLaw waiting :=
  ⟨by decide, by decide, fun i h => (by cases h), fun _ => by decide, fun f h => (by cases h),
    ⟨fun b h => (by cases h; unfold ControlBlock.Spans; decide), fun b h => (by cases h; unfold ControlBlock.Spans; decide),
      fun i h => (by cases h)⟩, fun c h => (by cases h), fun j h => (by cases h)⟩

theorem witness_ChannelLawKept : ChannelLaw waiting := by
  have e (c : Fin 8) : waiting.channels[c] = ⟨ChannelConfig.formatted, ChannelRun.fresh false⟩ := by
    simp [waiting, ready, State.reset, State.cleared]
  refine ⟨fun c => ?_, fun c => ?_, fun f h => (by cases h), fun d h => (by cases h), fun q h => (by cases h),
    ⟨?_, ?_, fun i h => (by cases h)⟩, fun c h => (by cases h), fun j h => (by cases h)⟩
  · rw [e c]
    exact ⟨by unfold ChannelRun.Lawful; decide, formatted_config_lawful⟩
  · rw [e c]
    intro h
    cases h
  all_goals
    intro x h c
    cases h
    simpa using formatted_config_lawful

theorem witness_PublishedStaysPersisted :
    PhaseLaw waiting ∧ JournalLaw waiting ∧ SlotLaw waiting ∧ CommitMatches waiting ∧ StartupMatches waiting ∧
    PublishedIsPersisted waiting := by
  refine ⟨witness_PhaseLawKept.1, witness_JournalLawKept, ⟨by decide, fun f h => (by cases h)⟩,
    fun c h => (by cases h), fun j h => (by cases h),
    fun _ _ => ⟨fun t c h => ?_, fun c h => ?_, fun c h => ?_, ⟨ControlBlock.formatted, rfl, rfl, rfl, rfl, rfl, fun _ => rfl⟩,
      fun e h => (by cases h), by decide⟩⟩
  · have e : waiting.totals[t] = ⟨Record.unused, false, false, false⟩ := by
      simp [waiting, ready, State.reset, State.cleared]
    have en : waiting.nv.home[t] = ⟨.good .format Record.unused, .good .format Record.unused⟩ := formatted_home t
    rw [e, en]
    cases c <;> rfl
  · cases c <;> rfl
  · have e : (Vector.ofFn fun k : Fin 8 => waiting.channels[k].config) =
        Vector.replicate 8 ChannelConfig.formatted := by
      ext1 i hi
      simp [waiting, ready, State.reset, State.cleared]
    rw [e]
    cases c <;> rfl

theorem witness_MonotonicNeverLowered : RisesLaw waiting ∧ waiting.device ≠ .starting :=
  ⟨fun f h => (by cases h), fun h => by cases h⟩

theorem witness_PublicationAlone :
    waiting.pending = .take :: [] ∧ EpochLaw waiting ∧ SlotLaw waiting ∧ (ready []).device ≠ .starting :=
  ⟨rfl, fun f h => (by cases h), ⟨by decide, fun f h => (by cases h)⟩, fun h => by cases h⟩

/-- A tie of HALF_EVEN: 2.5 at scale 0 gives 2. -/
theorem witness_RoundedAmounts :
    |(⟨25, 1⟩ : Dec).number| * 10 ^ 0 = ((⟨25, 1⟩ : Dec).align .halfEven 0).natAbs + 1 / 2 := by
  rw [show ((⟨25, 1⟩ : Dec).align .halfEven 0).natAbs = 2 by decide]
  norm_num [Dec.number]

end Sys2Proof.Tests
end

