-- ==== Sys2Proof/Proofs/DecimalValues.lean ====
section
/-! PROOFS. Exact alignment and comparison of decimals (R11, R12): the coefficient at a wider scale, the cases of
exact alignment, and the order of two decimals as the order of the numbers they stand for. -/

namespace Sys2Proof.Machine

/-! ### Exact alignment (R11) -/

theorem Dec.natAbs_widen (x : Dec) (t : Nat) : (x.widen t).natAbs = x.value.natAbs * 10 ^ (t - x.scale) := by
  simp [Dec.widen, Int.natAbs_mul, Int.natAbs_pow]

theorem Dec.widen_mul_pow {x : Dec} {t : Nat} (h : x.scale ≤ t) : x.widen t * 10 ^ x.scale = x.value * 10 ^ t := by
  rw [Dec.widen, mul_assoc, ← pow_add, Nat.sub_add_cancel h]

/-- R11: with every excess digit 0 the kept coefficient, under the value's sign, holds all of the value. -/
theorem sign_mul_kept_mul_pow {v : Int} {e : Nat} (h : excess v.natAbs e = 0) :
    v.sign * (kept v.natAbs e : Int) * 10 ^ e = v := by
  have hk : kept v.natAbs e * 10 ^ e = v.natAbs := Nat.div_mul_cancel (Nat.dvd_of_mod_eq_zero h)
  calc v.sign * (kept v.natAbs e : Int) * 10 ^ e = v.sign * (kept v.natAbs e * 10 ^ e : Nat) := by
        push_cast
        rw [mul_assoc]
    _ = v := by rw [hk, Int.sign_mul_natAbs]

/-- R11: exact alignment widens within 18 digits, or narrows by digits that are all 0. -/
theorem Dec.alignExact_eq_some {x : Dec} {t : Nat} {v : Int} :
    x.alignExact t = some v ↔
      (x.scale ≤ t ∧ (x.widen t).natAbs < 10 ^ 18 ∧ v = x.widen t) ∨
      (t < x.scale ∧ excess x.value.natAbs (x.scale - t) = 0 ∧
        v = x.value.sign * (kept x.value.natAbs (x.scale - t) : Int)) := by
  unfold Dec.alignExact
  split
  next hw => simp [hw, eq_comm]
  next hw => simp [hw, Nat.lt_of_not_le hw, eq_comm]

theorem Dec.alignExact_eq_none {x : Dec} {t : Nat} :
    x.alignExact t = none ↔
      (x.scale ≤ t ∧ 10 ^ 18 ≤ (x.widen t).natAbs) ∨ (t < x.scale ∧ excess x.value.natAbs (x.scale - t) ≠ 0) := by
  unfold Dec.alignExact
  split
  next hw => simp [hw]
  next hw => simp [hw, Nat.lt_of_not_le hw]

theorem Dec.alignExact_mul_pow {x : Dec} {t : Nat} {v : Int} (h : x.alignExact t = some v) :
    v * 10 ^ x.scale = x.value * 10 ^ t := by
  obtain ⟨hw, -, rfl⟩ | ⟨hn, hz, rfl⟩ := Dec.alignExact_eq_some.1 h
  · exact Dec.widen_mul_pow hw
  · have hs : x.scale = x.scale - t + t := (Nat.sub_add_cancel hn.le).symm
    calc x.value.sign * (kept x.value.natAbs (x.scale - t) : Int) * 10 ^ x.scale
        = x.value.sign * (kept x.value.natAbs (x.scale - t) : Int) * 10 ^ (x.scale - t) * 10 ^ t := by
          rw [mul_assoc _ (10 ^ (x.scale - t)), ← pow_add, ← hs]
      _ = x.value * 10 ^ t := by rw [sign_mul_kept_mul_pow hz]

/-! ### Comparison (R12) -/

theorem Dec.widen_eq_number {x : Dec} {t : Nat} (h : x.scale ≤ t) : (x.widen t : ℚ) = x.number * 10 ^ t := by
  have hw : (x.widen t : ℚ) * 10 ^ x.scale = x.value * 10 ^ t := mod_cast Dec.widen_mul_pow h
  rw [Dec.number, div_mul_eq_mul_div, eq_div_iff (by positivity), hw]

/-- R12: at any common scale wide enough for both, the coefficients are ordered as the numbers are. -/
theorem compare_widen_eq_number {x y : Dec} {t : Nat} (hx : x.scale ≤ t) (hy : y.scale ≤ t) :
    compare (x.widen t) (y.widen t) = compare x.number y.number := by
  have scaled : StrictMono fun q : ℚ => q * 10 ^ t := strictMono_mul_right_of_pos (by positivity)
  calc compare (x.widen t) (y.widen t) = cmp (x.widen t : ℚ) (y.widen t : ℚ) := by
        rw [Int.cast_strictMono.cmp_map_eq, cmp_eq_compare]
    _ = cmp (x.number * 10 ^ t) (y.number * 10 ^ t) := by rw [Dec.widen_eq_number hx, Dec.widen_eq_number hy]
    _ = compare x.number y.number := by rw [scaled.cmp_map_eq, cmp_eq_compare]

theorem Dec.cmp_eq_compare_number (x y : Dec) : x.cmp y = compare x.number y.number :=
  compare_widen_eq_number (le_max_left _ _) (le_max_right _ _)

theorem Relation.holds_lt (x y : Dec) : Relation.lt.holds x y = true ↔ x.number < y.number := by
  simp [Relation.holds, Dec.cmp_eq_compare_number, compare_lt_iff_lt]

theorem Relation.holds_le (x y : Dec) : Relation.le.holds x y = true ↔ x.number ≤ y.number := by
  simp [Relation.holds, Dec.cmp_eq_compare_number, compare_le_iff_le]

theorem Relation.holds_gt (x y : Dec) : Relation.gt.holds x y = true ↔ x.number > y.number := by
  simp [Relation.holds, Dec.cmp_eq_compare_number, compare_gt_iff_gt]

theorem Relation.holds_ge (x y : Dec) : Relation.ge.holds x y = true ↔ x.number ≥ y.number := by
  simp [Relation.holds, Dec.cmp_eq_compare_number, compare_ge_iff_ge]

theorem Relation.holds_eq (x y : Dec) : Relation.eq.holds x y = true ↔ x.number = y.number := by
  simp [Relation.holds, Dec.cmp_eq_compare_number]

theorem Relation.holds_ne (x y : Dec) : Relation.ne.holds x y = true ↔ x.number ≠ y.number := by
  simp [Relation.holds, Dec.cmp_eq_compare_number]

/-- R100: a guard compares the totaliser's working value with the threshold the bank holds. -/
theorem guardHolds_of_threshold {bank : Bank} {leg : Leg} {g : Guard} {threshold : Dec} (work : Working)
    (hg : leg.guard = some g) (hk : bank[g.threshold] = some threshold) :
    guardHolds bank work leg = g.relation.holds work[g.totaliser].decimal threshold := by
  simp only [guardHolds, hg, entryValue, hk, Option.getD_some]

/-- Settles O35, by the cases of exact alignment. -/
theorem exactAlignment : Obligations.ExactAlignment := by
  intro x t
  refine ⟨fun v => Dec.alignExact_mul_pow, ?_⟩
  rw [Dec.alignExact_eq_none, Dec.natAbs_widen, excess]

/-- Settles O36: both decimals widened to one scale are ordered as the numbers they stand for. -/
theorem comparisonExact : Obligations.ComparisonExact :=
  ⟨fun x y => ⟨Relation.holds_lt x y, Relation.holds_le x y, Relation.holds_gt x y, Relation.holds_ge x y,
      Relation.holds_eq x y, Relation.holds_ne x y⟩,
    fun _ work _ _ _ => guardHolds_of_threshold work⟩

end Sys2Proof.Machine
end

section
/-! PROOFS. The totaliser table (R26 to R32, R35): one change offered to a record, by its candidate, its two checks and
its bounds, and the clearing of one record's status flags. -/

namespace Sys2Proof.Machine

/-! ### The candidate (R28) -/

theorem candidate_delta_of_not_carry {r : Record} (h : r.rounding ≠ .carry) (d : Dec) :
    candidate r (.delta d) = (r.value + d.align r.rounding r.scale, 0) := by
  simp only [candidate, if_neg h]

theorem candidate_delta_of_carry {r : Record} (h : r.rounding = .carry) (d : Dec) :
    candidate r (.delta d) =
      (r.value + carryWhole d.value.natAbs d.scale r.scale +
          (carryCombine r.residue (carryFraction d.value.natAbs d.scale r.scale)).1,
        (carryCombine r.residue (carryFraction d.value.natAbs d.scale r.scale)).2) := by
  simp only [candidate, if_pos h]

@[simp] theorem candidate_set (r : Record) (d : Dec) : candidate r (.set d) = (d.align r.rounding r.scale, 0) := rfl
@[simp] theorem candidate_clear (r : Record) : candidate r .clear = (0, 0) := rfl

/-- R8: alignment never reverses the sign of an amount of +0 or more. -/
theorem Dec.align_nonneg {x : Dec} (h : 0 ≤ x.value) (mode : Rounding) (t : Nat) : 0 ≤ x.align mode t := by
  rw [Dec.align, if_neg h.not_gt]
  exact Int.natCast_nonneg _

/-- R28: under every rounding, a delta of +0 or more never takes the value down. -/
theorem value_le_candidate_delta (r : Record) {d : Dec} (h : 0 ≤ d.value) :
    r.value ≤ (candidate r (.delta d)).1 := by
  by_cases hc : r.rounding = .carry
  · rw [candidate_delta_of_carry hc, add_assoc]
    exact Int.le_add_of_nonneg_right (by positivity)
  · rw [candidate_delta_of_not_carry hc]
    exact Int.le_add_of_nonneg_right (Dec.align_nonneg h _ _)

/-! ### The KIND and DIRECTION checks (R26, R27) -/

theorem kindAdmits_eq_false {k : Kind} {c : Change} :
    kindAdmits k c = false ↔ (k ≠ .balance ∧ ∃ d, c = .set d) ∨ (k = .monotonic ∧ c = .clear) := by
  cases c <;> simp [kindAdmits]

theorem directionAdmits_eq_false {k : Kind} {c : Change} :
    directionAdmits k c = false ↔ k ≠ .balance ∧ ∃ d, c = .delta d ∧ d.value < 0 := by
  cases c <;> simp [directionAdmits]

theorem applyChange_of_kind {r : Record} {c : Change} (hk : kindAdmits r.kind c = false) :
    applyChange r c = .error .kind := by
  simp [applyChange, hk]

theorem applyChange_of_direction {r : Record} {c : Change} (hk : kindAdmits r.kind c = true)
    (hd : directionAdmits r.kind c = false) : applyChange r c = .error .direction := by
  simp [applyChange, hk, hd]

theorem applyChange_of_admitted {r : Record} {c : Change} (hk : kindAdmits r.kind c = true)
    (hd : directionAdmits r.kind c = true) : applyChange r c = bounded r (candidate r c) := by
  simp [applyChange, hk, hd]

/-! ### The bounds (R29 to R32) -/

theorem bounded_within {r : Record} {c : Int × Nat} (hl : r.lowerBound ≤ c.1) (hu : c.1 ≤ r.upperBound) :
    bounded r c = .ok { value := c.1, residue := c.2, mark := .none, clamp := .none } :=
  if_pos ⟨hl, hu⟩

theorem not_within_of_outside {r : Record} {c : Int × Nat} (h : c.1 < r.lowerBound ∨ r.upperBound < c.1) :
    ¬(r.lowerBound ≤ c.1 ∧ c.1 ≤ r.upperBound) := by
  omega

theorem bounded_reject_outside {r : Record} {c : Int × Nat} (hp : r.policy = .reject)
    (h : c.1 < r.lowerBound ∨ r.upperBound < c.1) : bounded r c = .error .limit := by
  simp [bounded, not_within_of_outside h, hp]

theorem bounded_saturate_above {r : Record} {c : Int × Nat} (hp : r.policy = .saturate) (h : r.upperBound < c.1) :
    bounded r c = .ok { value := r.upperBound, residue := 0, mark := .saturated, clamp := .upper } := by
  simp [bounded, not_within_of_outside (.inr h), hp, h]

theorem bounded_saturate_below {r : Record} {c : Int × Nat} (hp : r.policy = .saturate) (h : c.1 < r.lowerBound)
    (hu : c.1 ≤ r.upperBound) :
    bounded r c = .ok { value := r.lowerBound, residue := 0, mark := .saturated, clamp := .lower } := by
  simp [bounded, not_within_of_outside (.inl h), hp, hu.not_gt]

theorem bounded_wrap_above {r : Record} {c : Int × Nat} (hp : r.policy = .wrap) (h : r.upperBound < c.1) :
    bounded r c =
      .ok { value := c.1 % (Config.capacity + 1), residue := c.2, mark := .wrapped, clamp := .none } := by
  simp [bounded, not_within_of_outside (.inr h), hp, h]

/-! ### The lower bound of a record that is not BALANCE (R20, R29, R32) -/

theorem Record.lower_eq_none_of_legal {r : Record} (h : r.legal = true) (hk : r.kind ≠ .balance) : r.lower = none := by
  simp only [Record.legal, Bool.and_eq_true, Bool.not_eq_true', Bool.and_eq_false_iff] at h
  obtain ⟨⟨-, hlower⟩, -⟩ := h
  simpa [hk] using hlower

theorem Record.lowerBound_eq_zero {r : Record} (h : r.legal = true) (hk : r.kind ≠ .balance) : r.lowerBound = 0 := by
  simp [Record.lowerBound, Record.lower_eq_none_of_legal h hk, hk]

/-- R32: past the KIND and DIRECTION checks a change of a lawful record that is not BALANCE is a CLEAR or adds +0 or
more, so its candidate stays at or above the lower bound. -/
theorem Record.Lawful.lowerBound_le_candidate {r : Record} {c : Change} (h : r.Lawful) (hk : r.kind ≠ .balance)
    (hkind : kindAdmits r.kind c = true) (hdir : directionAdmits r.kind c = true) :
    r.lowerBound ≤ (candidate r c).1 := by
  obtain ⟨hlegal, -, -, hvalue, -⟩ := h
  cases c with
  | delta d =>
    have hd : 0 ≤ d.value := by simpa [directionAdmits, hk] using hdir
    exact hvalue.trans (value_le_candidate_delta r hd)
  | set d => simp [kindAdmits, hk] at hkind
  | clear =>
    rw [candidate_clear]
    exact (Record.lowerBound_eq_zero hlegal hk).le

/-- Settles O37: the candidate by the form of the change, the two checks in order, then the bounds by policy. -/
theorem changeChecked : Obligations.ChangeChecked := by
  intro r c v w upper lower badKind badDirection
  have hkind : kindAdmits r.kind c = false ↔ badKind := kindAdmits_eq_false
  have hdir : directionAdmits r.kind c = false ↔ badDirection := directionAdmits_eq_false
  rw [← hkind, ← hdir, Bool.not_eq_false, Bool.not_eq_false]
  refine ⟨?delta, ?set, ?clear, applyChange_of_kind, applyChange_of_direction, fun hk hd => ?bounds⟩
  case delta =>
    rintro d rfl hc
    exact Prod.ext_iff.1 (candidate_delta_of_not_carry hc d)
  case set =>
    rintro d rfl
    exact Prod.ext_iff.1 (candidate_set r d)
  case clear =>
    rintro rfl
    exact Prod.ext_iff.1 (candidate_clear r)
  case bounds =>
    rw [applyChange_of_admitted hk hd]
    refine ⟨bounded_within, bounded_reject_outside, bounded_saturate_above, bounded_saturate_below,
      fun hp _ => bounded_wrap_above hp, fun hr hb => hr.lowerBound_le_candidate hb hk hd⟩

/-! ### ACK_STATUS (R35) -/

theorem exec_ackStatus (s : State) :
    exec .ackStatus s = takeCommand 0x08 false (unlessPowerdown ackStatusRun) s := rfl

theorem ackStatusRun_of_index {s : State} {t : Fin 64} (h : s.args[0].toNat = t.val) :
    ackStatusRun s = ({ s with totals := s.totals.set t s.totals[t].unmarked }, .ok) := by
  simp only [ackStatusRun, indexArg_of_eq h]

theorem ackStatusRun_of_badIndex {s : State} (h : 63 < s.args[0].toNat) : ackStatusRun s = (s, .badArgument) := by
  simp only [ackStatusRun, indexArg_eq_none.2 h, refuse]

theorem unlessPowerdown_powerdown {s : State} (h : s.device = .powerdown) (run : State → State × ResultCode) :
    unlessPowerdown run s = (s, .powerdown) := by
  simp only [unlessPowerdown, h, refuse]

/-- Settles O18, by the device state and then by the index. -/
theorem ackStatusClearsFlags : Obligations.AckStatusClearsFlags := by
  intro s hat
  simp only [exec_ackStatus]
  refine ⟨fun hdev => ⟨fun hbad => ?badIndex, fun t ht => ?index⟩, fun hdev => ?starting, fun hdev => ?powerdown⟩
  case badIndex =>
    rw [takesAcks_run ⟨hat, hdev⟩, ackStatusRun_of_badIndex (s := { s with command := 0x08 }) hbad]
    rfl
  case index =>
    rw [takesAcks_run ⟨hat, hdev⟩, ackStatusRun_of_index (s := { s with command := 0x08 }) ht]
    rfl
  case starting => exact takeCommand_starting hat hdev _ _ _
  case powerdown =>
    have hrun : s.device ≠ .starting := by simp [hdev]
    rw [takeCommand_run hat hrun, unlessPowerdown_powerdown]
    · rfl
    · exact hdev

end Sys2Proof.Machine
end

section
/-! PROOFS. Composing work (R71): DISCARD by whether the draft is EMPTY or OPEN. -/

namespace Sys2Proof.Machine

theorem exec_discard (s : State) :
    exec .discard s = takeCommand 0x05 false (unlessPowerdown discardRun) s := rfl

theorem discardRun_of_empty {s : State} (h : s.draft = none) : discardRun s = (s, .wrongState) := by
  simp [discardRun, h, refuse]

theorem discardRun_of_open {s : State} {d : Draft} (h : s.draft = some d) :
    discardRun s = ({ s with draft := none }, .ok) := by
  simp [discardRun, h]

/-- Settles O15: the state with the code shown holds the same draft, which is EMPTY or OPEN. -/
theorem discardEmptiesDraft : Obligations.DiscardEmptiesDraft := by
  intro s hacks
  rw [exec_discard, takesAcks_run hacks]
  refine ⟨fun hempty => ?empty, fun d hopen => ?opened⟩
  case empty =>
    rw [discardRun_of_empty (s := { s with command := 0x05 }) hempty]
    rfl
  case opened =>
    rw [discardRun_of_open (s := { s with command := 0x05 }) hopen]
    rfl

end Sys2Proof.Machine
end

section
/-! PROOFS. The posting engine's choice (R90, R92): what is chosen in each row of R90's table, and what a take of that
choice puts in flight. -/

namespace Sys2Proof.Machine

/-! ### The choice by what is offered (R90) -/

theorem State.Offers.unique {s : State} {q q' : QueueItem} (h : s.Offers q) (h' : s.Offers q') : q = q' :=
  Option.some.inj (h.1.symm.trans h'.1)

/-- R90: with the queue head and a fold both offered, the head and the fold do not both have the turn. -/
theorem State.Offers.not_fold_turn_of_head_turn {s : State} {q : QueueItem} {c : Fin 8} (hq : s.Offers q)
    (hrequest : s.channels[c].run.request = true)
    (hhead : (∀ c : Fin 8, s.channels[c].run.request = false) ∨ 4 ≤ s.engine.fairness) :
    ¬((∀ q, ¬s.Offers q) ∨ s.engine.fairness < 4) := by
  rintro (hnohead | hless)
  · exact hnohead q hq
  · obtain hnofold | hfour := hhead
    · exact Bool.eq_false_iff.1 (hnofold c) hrequest
    · exact hfour.not_gt hless

theorem choice_eq_none {s : State} (hnohead : ∀ q, ¬s.Offers q)
    (hnofold : ∀ c : Fin 8, s.channels[c].run.request = false) : s.choice = none := by
  obtain ⟨hchoice, -⟩ | ⟨q, -, hq, -⟩ | ⟨c, -, ⟨hrequest, -⟩, -⟩ := choice_cases s
  · exact hchoice
  · exact absurd hq (hnohead q)
  · exact absurd hrequest (Bool.eq_false_iff.1 (hnofold c))

theorem choice_eq_head {s : State} {q : QueueItem} (hq : s.Offers q)
    (hturn : (∀ c : Fin 8, s.channels[c].run.request = false) ∨ 4 ≤ s.engine.fairness) :
    s.choice = some (.head q) := by
  obtain ⟨-, hnohead, -⟩ | ⟨q', hchoice, hq', -⟩ | ⟨c, -, ⟨hrequest, -⟩, hfold⟩ := choice_cases s
  · exact absurd hq (hnohead q)
  · rw [hchoice, hq'.unique hq]
  · exact absurd hfold (hq.not_fold_turn_of_head_turn hrequest hturn)

theorem choice_eq_fold {s : State} {c : Fin 8} (hrequest : s.channels[c].run.request = true)
    (hturn : (∀ q, ¬s.Offers q) ∨ s.engine.fairness < 4) :
    ∃ d, s.choice = some (.fold d) ∧ s.FirstInOrder d := by
  obtain ⟨-, -, hnofold⟩ | ⟨q, -, hq, hhead⟩ | ⟨d, hchoice, hfirst, -⟩ := choice_cases s
  · exact absurd hrequest (Bool.eq_false_iff.1 (hnofold c))
  · exact absurd hturn (hq.not_fold_turn_of_head_turn hrequest hhead)
  · exact ⟨d, hchoice, hfirst⟩

/-! ### The take of a choice (R93) -/

theorem exec_take_of_none {s : State} (h : s.choice = none) : exec .take s = .next s := by
  simp only [exec, execTake, h]

theorem exec_take_of_choice {s : State} {x : Choice} (hfree : s.EngineFree) (h : s.choice = some x) :
    exec .take s = .next (takeChosen s x) := by
  simp only [exec, execTake, h, runs_mayTake.2 hfree, if_true]

theorem takeChosen_head_item (s : State) (q : QueueItem) :
    (takeChosen s (.head q)).engine.inFlight.map InFlight.item = some (.queued { q with active := true }) := rfl

theorem takeChosen_fold_item (s : State) (c : Fin 8) :
    (takeChosen s (.fold c)).engine.inFlight.map InFlight.item = some (.fold c) := rfl

/-- Settles O30: the choice in each row of R90's table, taken by a free engine. -/
theorem takeChooses : Obligations.TakeChooses := by
  intro s hfree
  refine ⟨fun hhead hfold => ?nothing, fun q hq hturn => ?head, fun ⟨c, hrequest⟩ hturn => ?fold⟩
  case nothing => exact exec_take_of_none (choice_eq_none hhead hfold)
  case head => exact ⟨_, exec_take_of_choice hfree (choice_eq_head hq hturn), takeChosen_head_item s q⟩
  case fold =>
    obtain ⟨d, hchoice, hfirst⟩ := choice_eq_fold hrequest hturn
    exact ⟨_, d, exec_take_of_choice hfree hchoice, takeChosen_fold_item s d, hfirst⟩

end Sys2Proof.Machine
end

section
/-! PROOFS. Pulse channels (R119, R123, R124, R128): a channel command past its device-state test, and GATE_OPEN,
FOLD_NOW and ACK_STRAY by the runtime record of the channel they name. -/

namespace Sys2Proof.Machine

/-! ### A channel command (R119) -/

theorem setRun_eq_withRun (c : Fin 8) (r : ChannelRun) (s : State) : setRun c r s = s.withRun c r := rfl

theorem onChannel_of_index {s : State} {c : Fin 8} (h : s.args[0].toNat = c.val)
    (run : Fin 8 → State → State × ResultCode) : onChannel run s = run c s := by
  simp only [onChannel, indexArg_of_eq h]

section
variable {c : Fin 8} {s t : State} {code : Byte} {run : Fin 8 → State → State × ResultCode} {r : ResultCode}

/-- The gates and ACK_STRAY act on the channel of ARG0 with the code shown. -/
theorem takesUpkeep_onChannel (hup : s.TakesUpkeep) (hc : s.args[0].toNat = c.val)
    (hrun : run c { s with command := code } = (t, r)) :
    takeCommand code false (unlessPowerFail (onChannel run)) s = .next { t with result := r } := by
  rw [takesUpkeep_run hup, onChannel_of_index (s := { s with command := code }) hc, hrun]

/-- FOLD_NOW and CLEAR_FAULT act on the channel of ARG0 with the code shown. -/
theorem takesService_onChannel (hserves : s.TakesService) (hc : s.args[0].toNat = c.val)
    (hrun : run c { s with command := code } = (t, r)) :
    takeCommand code false (onlyServing (onChannel run)) s = .next { t with result := r } := by
  rw [takesService_run hserves, onChannel_of_index (s := { s with command := code }) hc, hrun]

end

/-! ### GATE_OPEN (R124) -/

section
variable {c : Fin 8} {s : State}

theorem exec_gateOpen {t : State} {r : ResultCode} (hup : s.TakesUpkeep) (hc : s.args[0].toNat = c.val)
    (hrun : gateOpenRun c { s with command := 0x10 } = (t, r)) : exec .gateOpen s = .next { t with result := r } :=
  takesUpkeep_onChannel hup hc hrun

theorem gateOpenRun_of_disabled_or_draining
    (h : s.channels[c].run.state = .disabled ∨ s.channels[c].run.state = .draining) :
    gateOpenRun c s = (s, .wrongState) := by
  rcases h with h | h <;> simp only [gateOpenRun, h, refuse]

theorem gateOpenRun_of_idle_configuring (h : s.channels[c].run.state = .idle)
    (hconfig : s.channels[c].run.configInFlight = true) : gateOpenRun c s = (s, .wrongState) := by
  simp only [gateOpenRun, h, hconfig, if_true, refuse]

theorem gateOpenRun_of_idle (h : s.channels[c].run.state = .idle)
    (hconfig : s.channels[c].run.configInFlight = false) :
    gateOpenRun c s = (s.withRun c { s.channels[c].run with state := .counting, gateOpen := true }, .ok) := by
  simp only [gateOpenRun, h, hconfig, setRun_eq_withRun, Bool.false_eq_true, if_false]

theorem gateOpenRun_of_counting (h : s.channels[c].run.state = .counting) : gateOpenRun c s = (s, .ok) := by
  simp only [gateOpenRun, h]

theorem gateOpenRun_of_faulted (h : s.channels[c].run.state = .faulted) :
    gateOpenRun c s = (s.withRun c { s.channels[c].run with gateOpen := true }, .ok) := by
  simp only [gateOpenRun, h, setRun_eq_withRun]

end

/-- R117: an IDLE channel has no count. -/
theorem ChannelRun.Lawful.unfolded_of_idle {r : ChannelRun} (hlaw : r.Lawful) (h : r.state = .idle) :
    r.unfolded = 0 := by
  obtain ⟨-, -, -, -, -, -, hrest⟩ := hlaw
  obtain ⟨hcount, -⟩ := hrest (.inl h)
  exact hcount

/-- Settles O21, by the channel's state. -/
theorem gateOpenByState : Obligations.GateOpenByState := by
  intro c s hup hc r
  refine ⟨fun hst => ?refused, fun hst hconfig => ?configuring, fun hst hconfig => ?opens, fun hst hlaw => ?count,
    fun hst => ?counting, fun hst => ?faulted⟩
  case refused => exact exec_gateOpen hup hc (gateOpenRun_of_disabled_or_draining hst)
  case configuring => exact exec_gateOpen hup hc (gateOpenRun_of_idle_configuring hst hconfig)
  case opens => exact exec_gateOpen hup hc (gateOpenRun_of_idle hst hconfig)
  case count =>
    obtain ⟨hchannels, -⟩ := hlaw
    obtain ⟨hrun, -⟩ := hchannels c
    exact hrun.unfolded_of_idle hst
  case counting => exact exec_gateOpen hup hc (gateOpenRun_of_counting hst)
  case faulted => exact exec_gateOpen hup hc (gateOpenRun_of_faulted hst)

/-! ### FOLD_NOW (R123) -/

section
variable {c : Fin 8} {s : State}

theorem exec_foldNow {t : State} {r : ResultCode} (hserves : s.TakesService) (hc : s.args[0].toNat = c.val)
    (hrun : foldNowRun c { s with command := 0x12 } = (t, r)) : exec .foldNow s = .next { t with result := r } :=
  takesService_onChannel hserves hc hrun

theorem foldNowRun_of_disabled_or_faulted
    (h : s.channels[c].run.state = .disabled ∨ s.channels[c].run.state = .faulted) :
    foldNowRun c s = (s, .wrongState) := by
  simp only [foldNowRun, if_pos h, refuse]

variable (hin : ¬(s.channels[c].run.state = .disabled ∨ s.channels[c].run.state = .faulted))
include hin

theorem foldNowRun_of_no_count (hcount : s.channels[c].run.unfolded = 0) :
    foldNowRun c s = (s, .nothingToFold) := by
  simp only [foldNowRun, if_neg hin, if_pos hcount, refuse]

theorem foldNowRun_of_inFlight (hcount : s.channels[c].run.unfolded ≠ 0)
    (hflight : s.channels[c].run.inFlight.isSome = true) :
    foldNowRun c s = (s, .wrongState) := by
  simp only [foldNowRun, if_neg hin, if_neg hcount, if_pos hflight, refuse]

theorem foldNowRun_of_count (hcount : s.channels[c].run.unfolded ≠ 0)
    (hflight : s.channels[c].run.inFlight = none) :
    foldNowRun c s = (s.withRun c { s.channels[c].run with request := true }, .ok) := by
  have hnone : ¬s.channels[c].run.inFlight.isSome = true := by rw [hflight]; simp
  simp only [foldNowRun, if_neg hin, if_neg hcount, if_neg hnone, setRun_eq_withRun]

end

/-- Settles O23, by the three tests in their order. -/
theorem foldNowRaisesRequest : Obligations.FoldNowRaisesRequest := by
  intro c s hserves hc r
  refine ⟨fun hout => ?refused, fun hdis hfau => ?inService⟩
  case refused => exact exec_foldNow hserves hc (foldNowRun_of_disabled_or_faulted hout)
  case inService =>
    have hin : ¬(r.state = .disabled ∨ r.state = .faulted) := not_or.2 ⟨hdis, hfau⟩
    refine ⟨fun hcount => ?noCount, fun hcount hflight => ?inFlight, fun hcount hflight => ?raises⟩
    case noCount => exact exec_foldNow hserves hc (foldNowRun_of_no_count hin hcount)
    case inFlight => exact exec_foldNow hserves hc (foldNowRun_of_inFlight hin hcount.ne' hflight)
    case raises => exact exec_foldNow hserves hc (foldNowRun_of_count hin hcount.ne' hflight)

/-! ### ACK_STRAY (R128) -/

theorem ackStrayRun_eq (c : Fin 8) (s : State) :
    ackStrayRun c s = (s.withRun c { s.channels[c].run with stray := 0 }, .ok) := rfl

/-- Settles O25: past R119 the command looks at no field of the channel. -/
theorem ackStrayClearsCount : Obligations.AckStrayClearsCount := by
  intro c s hup hc
  exact takesUpkeep_onChannel hup hc (ackStrayRun_eq c { s with command := 0x14 })

end Sys2Proof.Machine
end

section
/-! PROOFS. What one step can do to the fields that the laws of the state read: one move for each kind of event. Every
law of Safety.lean is then shown to be kept move by move, with no meaning unfolded twice. -/

namespace Sys2Proof.Machine

/-! ### What the laws read -/

/-- The state with every field that no law reads set to one value: the port, the answers, the latches, the lines, the
marks of the operand buffer, the pending bank with its lock, and the order of service. -/
def State.bare (s : State) : State :=
  { s with
    port := Port.closed
    command := 0
    result := .ok
    args := Vector.replicate 12 0
    readout := { bytes := [], kind := 0, pointer := 0 }
    events := 0
    enables := 0
    cfgen := false
    pfail := false
    resetPin := false
    powered := true
    operand := { OperandBuffer.cleared with pairs := s.operand.pairs }
    queue := { s.queue with spaceWanted := false }
    constants := { s.constants with pending := Vector.replicate 32 none, lock := none }
    engine := { s.engine with fairness := 0, lastServed := 0, deferredReset := false }
    pending := []
    freeCount := 0 }

section
variable {s t : State} (h : s.bare = t.bare)
include h

theorem PhaseLaw.congr (hs : PhaseLaw s) : PhaseLaw t :=
  show PhaseLaw t.bare from h ▸ hs
theorem TotalsLaw.congr (hs : TotalsLaw s) : TotalsLaw t :=
  show TotalsLaw t.bare from h ▸ hs
theorem QueueLaw.congr (hs : QueueLaw s) : QueueLaw t :=
  show QueueLaw t.bare from h ▸ hs
theorem JournalLaw.congr (hs : JournalLaw s) : JournalLaw t :=
  show JournalLaw t.bare from h ▸ hs
theorem ChannelLaw.congr (hs : ChannelLaw s) : ChannelLaw t :=
  show ChannelLaw t.bare from h ▸ hs
theorem EpochLaw.congr (hs : EpochLaw s) : EpochLaw t :=
  show EpochLaw t.bare from h ▸ hs
theorem SlotLaw.congr (hs : SlotLaw s) : SlotLaw t :=
  show SlotLaw t.bare from h ▸ hs
theorem RisesLaw.congr (hs : RisesLaw s) : RisesLaw t :=
  show RisesLaw t.bare from h ▸ hs
theorem CommitMatches.congr (hs : CommitMatches s) : CommitMatches t :=
  show CommitMatches t.bare from h ▸ hs
theorem StartupMatches.congr (hs : StartupMatches s) : StartupMatches t :=
  show StartupMatches t.bare from h ▸ hs
theorem PublishedIsPersisted.congr (hs : PublishedIsPersisted s) : PublishedIsPersisted t :=
  show PublishedIsPersisted t.bare from h ▸ hs

end

/-! ### The moves -/

/-- What a channel command or an edge keeps of a runtime record: its lawfulness, the fold in flight, and that it is not
FAULTED. -/
structure RunKept (pfTaken : Bool) (g : ChannelConfig) (r r' : ChannelRun) : Prop where
  lawful : r.Lawful → g.Lawful → (r.state = .faulted → r.inFlight.isSome = true → pfTaken = true) → r'.Lawful
  inFlight : r'.inFlight = r.inFlight
  faulted : r'.state = .faulted → r.state = .faulted

/-- One event's effect on what the laws read. -/
inductive Move (c : Instr) : State → State → Prop where
  | idle (s : State) : Move c s s
  | operandPair (s : State) (data : Byte) : Move c s { s with operand := writeOperand data s.operand }
  | opened {s : State} {d : Draft} (hargs : openArguments s.args = some d) : Move c s { s with draft := some d }
  | legAdded {s : State} {tag epoch : Half} {mode : GuardMode} {legs : List Leg} (l : Leg) :
      Move c s { s with draft := some { tag := tag, body := .posting epoch mode (legs ++ [l]) } }
  | fieldSet {s : State} {d : Draft} {b : Body} (hdraft : s.draft = some d)
      (hfield : fieldOn d.body s.args s.operand = .ok b) : Move c s { s with draft := some { d with body := b } }
  | discarded (s : State) : Move c s { s with draft := none }
  | submitted {s : State} {d : Draft} {n : Word} (hdraft : s.draft = some d) (hseq : s.queue.nextSeq = some n)
      (hroom : s.queue.items.length < Config.queueCapacity) (hlegs : d.legs.length ≤ s.queue.legsFree) :
      Move c s (acceptDraft d n s)
  | cancelled (s : State) (q : QueueItem) (p : QueueItem → Bool) :
      Move c s (freeLock q (removeItems (s.queue.items.eraseP p) s))
  | acknowledged (s : State) (i : Fin 64) : Move c s { s with totals := s.totals.set i s.totals[i].unmarked }
  | popped {s : State} {e : JournalEntry} {rest : List JournalEntry} (hentries : s.journal.entries = e :: rest) :
      Move c s (endHeld { s with journal := { s.journal with head := s.journal.head + 1, entries := rest } })
  | pinned {s : State} {i : Fin 4} (hfilled : s.checkpoints.slots[i].content.isSome = true)
      (hfree : s.checkpoints.slots[i].inFlight = false) : Move c s (setPin i true s)
  | unpinned (s : State) (i : Fin 4) : Move c s (setPin i false s)
  | runChanged {s : State} {k : Fin 8} {r : ChannelRun}
      (hkept : RunKept s.pfTaken s.channels[k].config s.channels[k].run r) : Move c s (s.withRun k r)
  | restarted (s : State) : Move c s (beginStartup s)
  | cut (s : State) (written : Bool) : Move c s (cutWrites written s)
  | resetHeld (s : State) (written : Bool) : Move c s (cutWrites written s).ramCleared
  | resumed (s : State) : Move c s (resumeStartup s)
  | powerFailed {s : State} (hdevice : s.device = .ready ∨ s.device = .halted) : Move c s (takePowerFail s)
  | startupWrite {s : State} {j : StartupJob} (hstartup : s.startup = some (.writing j)) (matched : Bool) :
      Move c s (startupWriteDone matched j s)
  | headTaken {s : State} {q : QueueItem} (hfree : s.EngineFree) (hoffers : s.Offers q) : Move c s (takeHead q s)
  | foldTaken {s : State} {k : Fin 8} (hfree : s.EngineFree) (hrequest : s.channels[k].run.request = true) :
      Move c s (takeFold k s)
  | advanced {s : State} {k : Commit} (hcommit : s.commit = some k) : Move c s (commitAdvance k s)
  | published {s : State} {k : Commit} {f : InFlight} (hc : c = .commitCompletion) (hcommit : s.commit = some k)
      (hstage : k.stage = .retire) (hflight : s.engine.inFlight = some f) : Move c s (completeCommit k f s)
  | failed {s : State} {k : Commit} (hcommit : s.commit = some k) : Move c s (failAttempt k s)

/-- Up to what no law reads, `t` is left by one move from `s`. -/
def MovesTo (c : Instr) (s t : State) : Prop := ∃ t', Move c s t' ∧ t'.bare = t.bare

/-- Up to what no law reads, a command's step from `s` to `t` is one move. -/
def ActsAs (c : Instr) (s t : State) : Prop := ∃ s', s'.bare = s.bare ∧ MovesTo c s' t

theorem Move.movesTo {c : Instr} {s t : State} (h : Move c s t) : MovesTo c s t := ⟨t, h, rfl⟩

theorem MovesTo.idle {c : Instr} {s t : State} (h : s.bare = t.bare) : MovesTo c s t := ⟨s, .idle s, h⟩

theorem MovesTo.actsAs {c : Instr} {s t : State} (h : MovesTo c s t) : ActsAs c s t := ⟨s, rfl, h⟩

theorem MovesTo.refuse (c : Instr) (r : ResultCode) (s : State) : MovesTo c s (refuse r s).1 := .idle rfl

/-! ### A command is one move -/

section
variable {c : Instr} {code : Byte} {ends : Bool} {run : State → State × ResultCode} {s t : State}

theorem takeCommand_actsAs (hrun : ∀ u, MovesTo c u (run u).1) (h : takeCommand code ends run s = .next t) :
    ActsAs c s t := by
  obtain ⟨-, rfl⟩ | ⟨-, -, rfl⟩ | ⟨-, -, u, rfl, rfl⟩ := takeCommand_cases h
  · exact (MovesTo.idle rfl).actsAs
  · exact (MovesTo.idle (by cases ends <;> rfl)).actsAs
  · obtain ⟨v, hmove, hv⟩ := hrun { s with command := code, operand := if ends then endSeries s.operand else s.operand }
    exact ⟨_, by cases ends <;> rfl, v, hmove, hv⟩

theorem whenReady_movesTo (hrun : ∀ u, MovesTo c u (run u).1) (u : State) : MovesTo c u (whenReady run u).1 := by
  unfold whenReady
  split
  exacts [.refuse c _ u, .refuse c _ u, hrun u]

theorem unlessPowerdown_movesTo (hrun : ∀ u, MovesTo c u (run u).1) (u : State) :
    MovesTo c u (unlessPowerdown run u).1 := by
  unfold unlessPowerdown
  split
  exacts [.refuse c _ u, hrun u]

theorem unlessPowerFail_movesTo (hrun : ∀ u, MovesTo c u (run u).1) (u : State) :
    MovesTo c u (unlessPowerFail run u).1 := by
  unfold unlessPowerFail
  split
  · exact .refuse c _ u
  · exact hrun u
  · split
    exacts [.refuse c _ u, hrun u]

theorem onlyServing_movesTo (hrun : ∀ u : State, u.pfTaken = false → MovesTo c u (run u).1) (u : State) :
    MovesTo c u (onlyServing run u).1 := by
  unfold onlyServing
  split
  · exact .refuse c _ u
  · exact .refuse c _ u
  · split
    · exact .refuse c _ u
    · next hpf => exact hrun u (Bool.eq_false_iff.2 hpf)

theorem onChannel_movesTo {run : Fin 8 → State → State × ResultCode} {u : State}
    (hrun : ∀ k, MovesTo c u (run k u).1) : MovesTo c u (onChannel run u).1 := by
  unfold onChannel
  split
  exacts [.refuse c _ u, hrun _]

end

/-! ### Composing work, the queue and the tables -/

theorem openRun_movesTo (c : Instr) (s : State) : MovesTo c s (openRun s).1 := by
  unfold openRun
  split
  · exact .refuse c _ s
  · split
    · exact .refuse c _ s
    · next d hargs =>
      split
      exacts [.refuse c _ s, (Move.opened hargs).movesTo]

theorem legRun_movesTo (c : Instr) (s : State) : MovesTo c s (legRun s).1 := by
  unfold legRun
  split
  · split
    · exact .refuse c _ s
    · split
      · exact .refuse c _ s
      · split
        exacts [.refuse c _ s, (Move.legAdded _).movesTo]
  · exact .refuse c _ s

theorem fieldRun_movesTo (c : Instr) (s : State) : MovesTo c s (fieldRun s).1 := by
  unfold fieldRun
  split
  · exact .refuse c _ s
  · next d hdraft =>
    split
    · exact .refuse c _ s
    · next b hfield => exact (Move.fieldSet hdraft hfield).movesTo

theorem discardRun_movesTo (c : Instr) (s : State) : MovesTo c s (discardRun s).1 := by
  unfold discardRun
  split
  exacts [(Move.discarded s).movesTo, .refuse c _ s]

/-- The tests of R68 after the draft's own: an accepted SUBMIT found room in the queue and in the leg pool. -/
theorem submitRun_movesTo (c : Instr) (s : State) : MovesTo c s (submitRun s).1 := by
  unfold submitRun
  split
  · exact .refuse c _ s
  · next d hdraft =>
    iterate 4 (split; · exact .refuse c _ s)
    split
    · exact .refuse c _ s
    · next n hseq =>
      split
      · exact .idle rfl
      · next hroom =>
        split
        · exact .idle rfl
        · next hlegs => exact (Move.submitted hdraft hseq (not_le.1 hroom) (not_lt.1 hlegs)).movesTo

theorem cancelRun_movesTo (c : Instr) (s : State) : MovesTo c s (cancelRun s).1 := by
  unfold cancelRun
  split
  · exact .refuse c _ s
  · split
    exacts [.refuse c _ s, (Move.cancelled s _ _).movesTo]

theorem writePendingRun_movesTo (c : Instr) (s : State) : MovesTo c s (writePendingRun s).1 := by
  unfold writePendingRun
  split
  · exact .refuse c _ s
  · split
    · exact .refuse c _ s
    · split
      · exact .idle rfl
      · split
        exacts [.idle rfl, .refuse c _ s]

theorem ackStatusRun_movesTo (c : Instr) (s : State) : MovesTo c s (ackStatusRun s).1 := by
  unfold ackStatusRun
  split
  exacts [.refuse c _ s, (Move.acknowledged s _).movesTo]

theorem popRun_movesTo (c : Instr) (s : State) : MovesTo c s (popRun s).1 := by
  unfold popRun
  split
  · exact .refuse c _ s
  · next hentries => exact (Move.popped hentries).movesTo

theorem pinRun_movesTo (c : Instr) (s : State) : MovesTo c s (pinRun s).1 := by
  unfold pinRun
  split
  · exact .refuse c _ s
  · next i _ =>
    split
    · exact .refuse c _ s
    · next hfilled =>
      split
      · exact .refuse c _ s
      · next hfree =>
        exact (Move.pinned (Option.isSome_iff_ne_none.2 (by simpa using hfilled)) (by simpa using hfree)).movesTo

theorem unpinRun_movesTo (c : Instr) (s : State) : MovesTo c s (unpinRun s).1 := by
  unfold unpinRun
  split
  · exact .refuse c _ s
  · split
    exacts [.refuse c _ s, (Move.unpinned s _).movesTo]

theorem softResetRun_movesTo (c : Instr) (s : State) : MovesTo c s (softResetRun s).1 := by
  unfold softResetRun
  split
  exacts [.idle rfl, (Move.restarted s).movesTo]

/-! ### The LOADs change the readout buffer alone -/

theorem loadRecord_movesTo (c : Instr) (kind : Byte) (bytes : List Byte) (s : State) :
    MovesTo c s (loadRecord kind bytes s).1 := .idle rfl

theorem loadTotaliserRun_movesTo (c : Instr) (s : State) : MovesTo c s (loadTotaliserRun s).1 := by
  unfold loadTotaliserRun
  split
  exacts [.refuse c _ s, loadRecord_movesTo c _ _ s]

theorem loadConstantRun_movesTo (c : Instr) (s : State) : MovesTo c s (loadConstantRun s).1 := by
  unfold loadConstantRun
  split
  exacts [loadRecord_movesTo c _ _ s, .refuse c _ s]

theorem loadChannelRun_movesTo (c : Instr) (s : State) : MovesTo c s (loadChannelRun s).1 := by
  unfold loadChannelRun
  split
  exacts [.refuse c _ s, loadRecord_movesTo c _ _ s]

theorem loadQueueEntryRun_movesTo (c : Instr) (s : State) : MovesTo c s (loadQueueEntryRun s).1 := by
  unfold loadQueueEntryRun
  dsimp only
  split
  · exact .refuse c _ s
  · split
    exacts [.refuse c _ s, loadRecord_movesTo c _ _ s]

theorem loadJournalRun_movesTo (c : Instr) (s : State) : MovesTo c s (loadJournalRun s).1 := by
  unfold loadJournalRun
  dsimp only
  split
  · exact .refuse c _ s
  · split
    exacts [.refuse c _ s, loadRecord_movesTo c _ _ s]

theorem loadCheckpointRun_movesTo (c : Instr) (s : State) : MovesTo c s (loadCheckpointRun s).1 := by
  unfold loadCheckpointRun
  split
  · split
    · exact .refuse c _ s
    · split
      exacts [.refuse c _ s, loadRecord_movesTo c _ _ s]
  · exact .refuse c _ s

theorem loadDraftRun_movesTo (c : Instr) (s : State) : MovesTo c s (loadDraftRun s).1 := by
  unfold loadDraftRun
  split
  exacts [.refuse c _ s, loadRecord_movesTo c _ _ s]

end Sys2Proof.Machine
end

section
/-! PROOFS. The channel commands, the edges, the lines and the part's own steps as moves, and with them every step. -/

namespace Sys2Proof.Machine

/-! ### Lawful runtime records (R117) -/

/-- R117, R122: a request may be set where its condition holds. -/
theorem ChannelRun.Lawful.withRequest {r : ChannelRun} (h : r.Lawful) {b : Bool}
    (hb : b = true → 0 < r.unfolded ∧ r.inFlight = none ∧ (r.state = .counting ∨ r.state = .draining)) :
    { r with request := b }.Lawful := by
  obtain ⟨hcount, hstray, hopen, hshut, -, hflight, hnone⟩ := h
  exact ⟨hcount, hstray, hopen, hshut, hb, hflight, hnone⟩

/-- R122: the request that is raised is one that R117 allows; the threshold is 1 at least. -/
theorem Channel.raiseRequest_lawful {ch : Channel} (hrun : ch.run.Lawful) (hconfig : ch.config.Lawful) (pf : Bool) :
    (ch.raiseRequest pf).run.Lawful := by
  have hold := hrun
  obtain ⟨-, -, -, -, hrequest, -, -⟩ := hold
  obtain ⟨hthreshold, -⟩ := hconfig
  rw [raiseRequest_eq]
  refine hrun.withRequest fun hb => ?_
  simp only [Bool.or_eq_true, Bool.and_eq_true, Option.isNone_iff_eq_none, beq_iff_eq, decide_eq_true_eq] at hb
  rcases hb with hb | ⟨⟨hflight, -⟩, ⟨hstate, hcount⟩ | ⟨hstate, hcount⟩⟩
  · exact hrequest hb
  · exact ⟨by omega, hflight, .inl hstate⟩
  · exact ⟨hcount, hflight, .inr hstate⟩

@[simp] theorem Channel.raiseRequest_config (pf : Bool) (ch : Channel) : (ch.raiseRequest pf).config = ch.config := by
  rw [raiseRequest_eq]
@[simp] theorem Channel.raiseRequest_state (pf : Bool) (ch : Channel) :
    (ch.raiseRequest pf).run.state = ch.run.state := by
  rw [raiseRequest_eq]
@[simp] theorem Channel.raiseRequest_inFlight (pf : Bool) (ch : Channel) :
    (ch.raiseRequest pf).run.inFlight = ch.run.inFlight := by
  rw [raiseRequest_eq]

section
variable {pf : Bool} {ch : Channel} {r : ChannelRun}

/-- A change of the runtime record followed by R122's request. -/
theorem RunKept.raiseRequest (h : RunKept pf ch.config ch.run r) :
    RunKept pf ch.config ch.run (Channel.raiseRequest pf { ch with run := r }).run where
  lawful hr hg hf := Channel.raiseRequest_lawful (ch := { ch with run := r }) (h.lawful hr hg hf) hg pf
  inFlight := (Channel.raiseRequest_inFlight _ _).trans h.inFlight
  faulted hs := h.faulted ((Channel.raiseRequest_state _ _).symm.trans hs)

/-- R124: the gate of an IDLE or FAULTED channel opens. -/
theorem runKept_gateOpens (hstate : ch.run.state = .idle) :
    RunKept pf ch.config ch.run { ch.run with state := .counting, gateOpen := true } where
  lawful := by
    rintro ⟨hcount, hstray, -, -, hrequest, hflight, -⟩ - -
    simp only [hstate] at hrequest
    refine ⟨hcount, hstray, by simp, by simp, fun hr => ?_, hflight, by simp⟩
    simpa using (hrequest hr).2.2
  inFlight := rfl
  faulted := by simp

/-- R124, R125: the gate of a FAULTED channel. -/
theorem runKept_faultedGate (hstate : ch.run.state = .faulted) (gate : Bool) :
    RunKept pf ch.config ch.run { ch.run with gateOpen := gate } where
  lawful := by
    rintro ⟨hcount, hstray, -, -, hrequest, hflight, hnone⟩ - -
    exact ⟨hcount, hstray, by simp [hstate], by simp [hstate], hrequest, hflight, hnone⟩
  inFlight := rfl
  faulted := id

/-- R125, R126: a channel with nothing left closes. -/
theorem runKept_closes {gate : Bool} (hgate : gate = false) (hcount0 : ch.run.unfolded = 0)
    (hflight0 : (ch.run.state = .faulted → ch.run.inFlight.isSome = true → pf = true) → ch.run.inFlight = none) :
    RunKept pf ch.config ch.run { ch.run with state := .idle, gateOpen := gate } where
  lawful := by
    rintro ⟨hcount, hstray, -, -, hrequest, hflight, -⟩ - hf
    refine ⟨hcount, hstray, by simp, fun _ => hgate, fun hr => ?_, hflight, fun _ => ⟨hcount0, hflight0 hf⟩⟩
    exact absurd (hrequest hr).1 (by simp [hcount0])
  inFlight := rfl
  faulted := by simp

/-- R125: a channel drains. -/
theorem runKept_drains :
    RunKept pf ch.config ch.run { ch.run with state := .draining, gateOpen := false } where
  lawful := by
    rintro ⟨hcount, hstray, -, -, hrequest, hflight, -⟩ - -
    refine ⟨hcount, hstray, by simp, by simp, fun hr => ?_, hflight, by simp⟩
    obtain ⟨hpos, hnone, -⟩ := hrequest hr
    exact ⟨hpos, hnone, .inr rfl⟩
  inFlight := rfl
  faulted := by simp

/-- R127: a FAULTED channel counts on or drains, by its gate. -/
theorem runKept_clears (hstate : ch.run.state = .faulted) {st : ChannelState}
    (hst : (ch.run.gateOpen = true ∧ st = .counting) ∨ (ch.run.gateOpen = false ∧ st = .draining)) :
    RunKept pf ch.config ch.run { ch.run with state := st } where
  lawful := by
    rintro ⟨hcount, hstray, -, -, hrequest, hflight, -⟩ - -
    simp only [hstate] at hrequest
    rcases hst with ⟨hgate, rfl⟩ | ⟨hgate, rfl⟩
    all_goals
      refine ⟨hcount, hstray, by simp [hgate], by simp [hgate], fun hr => ?_, hflight, by simp⟩
      simpa using (hrequest hr).2.2
  inFlight := rfl
  faulted := fun _ => hstate

/-- R123: a request is raised on a channel with a count, no fold in flight, and in service. -/
theorem runKept_foldNow (hstate : ¬(ch.run.state = .disabled ∨ ch.run.state = .faulted))
    (hcount : ch.run.unfolded ≠ 0) (hflight : ch.run.inFlight = none) :
    RunKept pf ch.config ch.run { ch.run with request := true } where
  lawful := by
    intro h _ _
    have hold := h
    obtain ⟨-, -, -, -, -, -, hnone⟩ := hold
    refine h.withRequest fun _ => ⟨Nat.pos_of_ne_zero hcount, hflight, ?_⟩
    have hidle : ch.run.state ≠ .idle := fun he => hcount (hnone (.inl he)).1
    cases hs : ch.run.state <;> simp_all
  inFlight := rfl
  faulted := id

/-- R128. -/
theorem runKept_ackStray : RunKept pf ch.config ch.run { ch.run with stray := 0 } where
  lawful := by
    rintro ⟨hcount, -, hopen, hshut, hrequest, hflight, hnone⟩ - -
    exact ⟨hcount, Nat.zero_le _, hopen, hshut, hrequest, hflight, hnone⟩
  inFlight := rfl
  faulted := id

end

/-- Everything that an accepted edge does to the counts (R121). -/
theorem countEdge_cases (r : ChannelRun) (time : Nat) :
    (r.counts = true ∧ r.unfolded < Config.countCeiling ∧
      r.countEdge time = ({ r with lastEdge := some time, unfolded := r.unfolded + 1 }, none)) ∨
    (r.counts = true ∧ Config.countCeiling ≤ r.unfolded ∧
      r.countEdge time = ({ r with lastEdge := some time, overrun := true }, some .overrun)) ∨
    (r.counts = false ∧ r.stray < Config.countCeiling ∧
      r.countEdge time = ({ r with lastEdge := some time, stray := r.stray + 1 }, some .stray)) ∨
    (r.counts = false ∧ Config.countCeiling ≤ r.stray ∧
      r.countEdge time = ({ r with lastEdge := some time }, some .stray)) := by
  have hcounts : { r with lastEdge := some time }.counts = r.counts := rfl
  simp only [ChannelRun.countEdge, hcounts]
  cases r.counts
  · by_cases h : r.stray < Config.countCeiling
    · exact .inr (.inr (.inl ⟨rfl, h, by simp [h]⟩))
    · exact .inr (.inr (.inr ⟨rfl, not_lt.1 h, by simp [h]⟩))
  · by_cases h : r.unfolded < Config.countCeiling
    · exact .inl ⟨rfl, h, by simp [h]⟩
    · exact .inr (.inl ⟨rfl, not_lt.1 h, by simp [h]⟩)

theorem runKept_countEdge (pf : Bool) (ch : Channel) (time : Nat) :
    RunKept pf ch.config ch.run (ch.run.countEdge time).1 := by
  rcases countEdge_cases ch.run time with ⟨hc, hlt, e⟩ | ⟨-, -, e⟩ | ⟨-, hlt, e⟩ | ⟨-, -, e⟩ <;> rw [e] <;>
    refine ⟨?_, rfl, id⟩ <;> rintro ⟨hcount, hstray, hopen, hshut, hrequest, hflight, hnone⟩ - -
  · refine ⟨hlt, hstray, hopen, hshut, fun hr => ⟨Nat.succ_pos _, (hrequest hr).2⟩, hflight, fun hs => ?_⟩
    rcases hs with hs | hs <;> simp [ChannelRun.counts, show ch.run.state = _ from hs] at hc
  · exact ⟨hcount, hstray, hopen, hshut, hrequest, hflight, hnone⟩
  · exact ⟨hcount, hlt, hopen, hshut, hrequest, hflight, hnone⟩
  · exact ⟨hcount, hstray, hopen, hshut, hrequest, hflight, hnone⟩

/-! ### The channel commands (R123 to R128) -/

theorem gateOpenRun_movesTo (c : Instr) (k : Fin 8) (s : State) : MovesTo c s (gateOpenRun k s).1 := by
  unfold gateOpenRun
  dsimp only
  split
  · exact .refuse c _ s
  · next hstate =>
    split
    exacts [.refuse c _ s, (Move.runChanged (runKept_gateOpens hstate)).movesTo]
  · exact .idle rfl
  · exact .refuse c _ s
  · next hstate => exact (Move.runChanged (runKept_faultedGate hstate true)).movesTo

theorem gateCloseRun_movesTo (c : Instr) (k : Fin 8) (s : State) : MovesTo c s (gateCloseRun k s).1 := by
  unfold gateCloseRun
  dsimp only
  split
  · exact .refuse c _ s
  · exact .idle rfl
  · split
    · next hleft =>
      exact ⟨_, Move.runChanged (runKept_closes rfl hleft.1 fun _ => hleft.2), rfl⟩
    · exact ⟨_, Move.runChanged (k := k) runKept_drains.raiseRequest, by simp [raiseRequest_eq]; rfl⟩
  · exact .idle rfl
  · next hstate => exact (Move.runChanged (runKept_faultedGate hstate false)).movesTo

theorem foldNowRun_movesTo (c : Instr) (k : Fin 8) (s : State) : MovesTo c s (foldNowRun k s).1 := by
  unfold foldNowRun
  dsimp only
  split
  · exact .refuse c _ s
  · next hstate =>
    split
    · exact .refuse c _ s
    · next hcount =>
      split
      · exact .refuse c _ s
      · next hflight =>
        exact (Move.runChanged (runKept_foldNow hstate hcount (by simpa using hflight))).movesTo

theorem clearFaultRun_movesTo (c : Instr) (k : Fin 8) (s : State) (hpf : s.pfTaken = false) :
    MovesTo c s (clearFaultRun k s).1 := by
  unfold clearFaultRun
  dsimp only
  split
  · exact .refuse c _ s
  · next hstate =>
    rw [ne_eq, not_not] at hstate
    split
    · next hgate =>
      exact ⟨_, Move.runChanged (k := k) (runKept_clears hstate (.inl ⟨hgate, rfl⟩)).raiseRequest,
        by simp [raiseRequest_eq]; rfl⟩
    · next hgate =>
      have hshut := Bool.eq_false_iff.2 hgate
      split
      · exact ⟨_, Move.runChanged (k := k) (runKept_clears hstate (.inr ⟨hshut, rfl⟩)).raiseRequest,
          by simp [raiseRequest_eq]; rfl⟩
      · next hcount =>
        have hkept := runKept_closes (pf := s.pfTaken) (ch := s.channels[k]) hshut (by omega) (fun hf => by
          simpa [hpf] using hf hstate)
        exact ⟨_, Move.runChanged hkept, rfl⟩

theorem ackStrayRun_movesTo (c : Instr) (k : Fin 8) (s : State) : MovesTo c s (ackStrayRun k s).1 :=
  (Move.runChanged runKept_ackStray).movesTo

theorem acceptEdge_movesTo (c : Instr) (k : Fin 8) (time : Nat) (s : State) : MovesTo c s (acceptEdge k time s) := by
  refine ⟨_, Move.runChanged (k := k) (runKept_countEdge s.pfTaken s.channels[k] time).raiseRequest, ?_⟩
  unfold acceptEdge
  dsimp only
  split <;> simp [raiseRequest_eq] <;> rfl

/-! ### The commands written to COMMAND (R188) -/

section
variable {c : Instr} {s t : State}

theorem execOpen_actsAs (h : execOpen s = .next t) : ActsAs c s t :=
  takeCommand_actsAs (whenReady_movesTo (openRun_movesTo c)) h
theorem execLeg_actsAs (h : execLeg s = .next t) : ActsAs c s t :=
  takeCommand_actsAs (whenReady_movesTo (legRun_movesTo c)) h
theorem execField_actsAs (h : execField s = .next t) : ActsAs c s t :=
  takeCommand_actsAs (whenReady_movesTo (fieldRun_movesTo c)) h
theorem execSubmit_actsAs (h : execSubmit s = .next t) : ActsAs c s t :=
  takeCommand_actsAs (whenReady_movesTo (submitRun_movesTo c)) h
theorem execDiscard_actsAs (h : execDiscard s = .next t) : ActsAs c s t :=
  takeCommand_actsAs (unlessPowerdown_movesTo (discardRun_movesTo c)) h
theorem execCancel_actsAs (h : execCancel s = .next t) : ActsAs c s t :=
  takeCommand_actsAs (onlyServing_movesTo fun u _ => cancelRun_movesTo c u) h
theorem execWritePending_actsAs (h : execWritePending s = .next t) : ActsAs c s t :=
  takeCommand_actsAs (whenReady_movesTo (writePendingRun_movesTo c)) h
theorem execAckStatus_actsAs (h : execAckStatus s = .next t) : ActsAs c s t :=
  takeCommand_actsAs (unlessPowerdown_movesTo (ackStatusRun_movesTo c)) h
theorem execPop_actsAs (h : execPop s = .next t) : ActsAs c s t :=
  takeCommand_actsAs (unlessPowerFail_movesTo (popRun_movesTo c)) h
theorem execPin_actsAs (h : execPin s = .next t) : ActsAs c s t :=
  takeCommand_actsAs (unlessPowerFail_movesTo (pinRun_movesTo c)) h
theorem execUnpin_actsAs (h : execUnpin s = .next t) : ActsAs c s t :=
  takeCommand_actsAs (unlessPowerFail_movesTo (unpinRun_movesTo c)) h
theorem execSoftReset_actsAs (h : execSoftReset s = .next t) : ActsAs c s t :=
  takeCommand_actsAs (unlessPowerFail_movesTo (softResetRun_movesTo c)) h
theorem execGateOpen_actsAs (h : execGateOpen s = .next t) : ActsAs c s t :=
  takeCommand_actsAs (unlessPowerFail_movesTo fun u => onChannel_movesTo fun k => gateOpenRun_movesTo c k u) h
theorem execGateClose_actsAs (h : execGateClose s = .next t) : ActsAs c s t :=
  takeCommand_actsAs (unlessPowerFail_movesTo fun u => onChannel_movesTo fun k => gateCloseRun_movesTo c k u) h
theorem execFoldNow_actsAs (h : execFoldNow s = .next t) : ActsAs c s t :=
  takeCommand_actsAs (onlyServing_movesTo fun u _ => onChannel_movesTo fun k => foldNowRun_movesTo c k u) h
theorem execClearFault_actsAs (h : execClearFault s = .next t) : ActsAs c s t :=
  takeCommand_actsAs (onlyServing_movesTo fun u hpf => onChannel_movesTo fun k => clearFaultRun_movesTo c k u hpf) h
theorem execAckStray_actsAs (h : execAckStray s = .next t) : ActsAs c s t :=
  takeCommand_actsAs (unlessPowerFail_movesTo fun u => onChannel_movesTo fun k => ackStrayRun_movesTo c k u) h
theorem execLoadTotaliser_actsAs (h : execLoadTotaliser s = .next t) : ActsAs c s t :=
  takeCommand_actsAs (loadTotaliserRun_movesTo c) h
theorem execLoadConstant_actsAs (h : execLoadConstant s = .next t) : ActsAs c s t :=
  takeCommand_actsAs (loadConstantRun_movesTo c) h
theorem execLoadChannel_actsAs (h : execLoadChannel s = .next t) : ActsAs c s t :=
  takeCommand_actsAs (loadChannelRun_movesTo c) h
theorem execLoadQueueEntry_actsAs (h : execLoadQueueEntry s = .next t) : ActsAs c s t :=
  takeCommand_actsAs (loadQueueEntryRun_movesTo c) h
theorem execLoadJournal_actsAs (h : execLoadJournal s = .next t) : ActsAs c s t :=
  takeCommand_actsAs (loadJournalRun_movesTo c) h
theorem execLoadCheckpoint_actsAs (h : execLoadCheckpoint s = .next t) : ActsAs c s t :=
  takeCommand_actsAs (loadCheckpointRun_movesTo c) h
theorem execLoadDraft_actsAs (h : execLoadDraft s = .next t) : ActsAs c s t :=
  takeCommand_actsAs (loadDraftRun_movesTo c) h
theorem execLoadStartupReport_actsAs (h : execLoadStartupReport s = .next t) : ActsAs c s t :=
  takeCommand_actsAs (fun u => loadRecord_movesTo c _ _ u) h
theorem execUnknownCommand_actsAs {code : Byte} (h : execUnknownCommand code s = .next t) : ActsAs c s t := by
  unfold execUnknownCommand at h
  split at h
  · cases h; exact (MovesTo.idle rfl).actsAs
  · exact takeCommand_actsAs (fun u => .refuse c _ u) h

theorem takeCode_actsAs {code : Byte} (h : takeCode code s = .next t) : ActsAs c s t := by
  unfold takeCode at h
  split at h
  exacts [execOpen_actsAs h, execLeg_actsAs h, execField_actsAs h, execSubmit_actsAs h, execDiscard_actsAs h,
    execCancel_actsAs h, execWritePending_actsAs h, execAckStatus_actsAs h, execPop_actsAs h, execPin_actsAs h,
    execUnpin_actsAs h, execSoftReset_actsAs h, execGateOpen_actsAs h, execGateClose_actsAs h, execFoldNow_actsAs h,
    execClearFault_actsAs h, execAckStray_actsAs h, execLoadTotaliser_actsAs h, execLoadConstant_actsAs h,
    execLoadChannel_actsAs h, execLoadQueueEntry_actsAs h, execLoadJournal_actsAs h, execLoadCheckpoint_actsAs h,
    execLoadDraft_actsAs h, execLoadStartupReport_actsAs h, execUnknownCommand_actsAs h]

/-! ### The port (R183 to R185) -/

/-- An outcome of the port that goes on in one of two ways. -/
theorem actsAs_of_ite {b : Bool} {u v : State}
    (h : (if b then Host.Outcome.next u else .next v) = Host.Outcome.next (φ := Fault) (ρ := Refusal) t)
    (hu : MovesTo c s u) (hv : MovesTo c s v) : ActsAs c s t := by
  split at h <;> cases h
  exacts [hu.actsAs, hv.actsAs]

theorem execTransactionStart_actsAs {first : Option Byte} (h : execTransactionStart first s = .next t) :
    ActsAs c s t := by
  cases first with
  | none => exact actsAs_of_ite h (.idle rfl) (.idle rfl)
  | some b => exact actsAs_of_ite h (.idle (by unfold startTransaction; dsimp only; split <;> rfl)) (.idle rfl)

theorem execOperand_actsAs {data : Byte} (h : execOperand data s = .next t) : ActsAs c s t :=
  actsAs_of_ite h (Move.operandPair s data).movesTo (.idle rfl)

theorem execReadout_actsAs (h : execReadout s = .next t) : ActsAs c s t :=
  actsAs_of_ite h (.idle rfl) (.idle rfl)

theorem execEvents_actsAs {data : Byte} (h : execEvents data s = .next t) : ActsAs c s t :=
  actsAs_of_ite h (.idle rfl) (.idle rfl)

theorem execEventEnable_actsAs {data : Byte} (h : execEventEnable data s = .next t) : ActsAs c s t :=
  actsAs_of_ite h (.idle rfl) (.idle rfl)

theorem writeRegister_bare (data : Byte) (s : State) : (writeRegister data s).advancePort.bare = s.bare := by
  unfold writeRegister
  split <;> rfl

theorem execRegisterWrite_actsAs {data : Byte} (h : execRegisterWrite data s = .next t) : ActsAs c s t := by
  unfold execRegisterWrite at h
  split at h
  · rcases writeDataByte_cases data s with ⟨-, e⟩ | ⟨-, e⟩ | ⟨-, e⟩ | ⟨-, e⟩ | ⟨-, e⟩ <;> rw [e] at h
    · exact takeCode_actsAs h
    · exact execOperand_actsAs h
    · exact execEvents_actsAs h
    · exact execEventEnable_actsAs h
    · cases h; exact (MovesTo.idle (writeRegister_bare data s).symm).actsAs
  · cases h; exact (MovesTo.idle rfl).actsAs

theorem execMultiByteReadCapture_actsAs {a : Address} (h : execMultiByteReadCapture a s = .next t) :
    ActsAs c s t := by
  unfold execMultiByteReadCapture at h
  split at h
  · split at h
    · exact execReadout_actsAs h
    · cases h; exact (MovesTo.idle rfl).actsAs
  · cases h; exact (MovesTo.idle rfl).actsAs

/-! ### Edges, lines and supply -/

theorem execEdge_actsAs {k : Fin 8} {rising : Bool} {time : Nat} (h : execEdge k rising time s = .next t) :
    ActsAs c s t :=
  actsAs_of_ite h (acceptEdge_movesTo c k time s) (.idle rfl)

theorem execCfgenChange_actsAs {active : Bool} (h : execCfgenChange active s = .next t) : ActsAs c s t :=
  actsAs_of_ite h (.idle rfl) (.idle rfl)

theorem execPfailAssertion_actsAs (h : execPfailAssertion s = .next t) : ActsAs c s t := by
  unfold execPfailAssertion at h
  split at h
  · cases h; exact (MovesTo.idle rfl).actsAs
  · split at h
    · next htakes =>
      cases h
      simp only [State.takesPfail, Bool.and_eq_true, Bool.or_eq_true, beq_iff_eq] at htakes
      exact ⟨{ s with pfail := true }, rfl, (Move.powerFailed (s := { s with pfail := true }) htakes.1).movesTo⟩
    · cases h; exact (MovesTo.idle rfl).actsAs

theorem execPfailDeassertion_actsAs (h : execPfailDeassertion s = .next t) : ActsAs c s t := by
  unfold execPfailDeassertion at h
  split at h <;> cases h
  exacts [⟨{ s with pfail := false }, rfl, (Move.resumed _).movesTo⟩, (MovesTo.idle rfl).actsAs]

theorem execResetLineAssertion_actsAs {written : Bool} (h : execResetLineAssertion written s = .next t) :
    ActsAs c s t := by
  unfold execResetLineAssertion at h
  split at h <;> cases h
  exacts [(MovesTo.idle rfl).actsAs, ⟨s, rfl, _, .resetHeld s written, rfl⟩]

theorem execResetLineRelease_actsAs {cfgen pfail : Bool} (h : execResetLineRelease cfgen pfail s = .next t) :
    ActsAs c s t := by
  unfold execResetLineRelease at h
  split at h <;> cases h
  exacts [(MovesTo.idle rfl).actsAs, ⟨_, by rfl, (Move.restarted _).movesTo⟩]

theorem execPowerLoss_actsAs {written : Bool} (h : execPowerLoss written s = .next t) : ActsAs c s t := by
  unfold execPowerLoss at h
  split at h <;> cases h
  exacts [⟨s, rfl, _, .cut s written, rfl⟩, (MovesTo.idle rfl).actsAs]

theorem execPowerOn_actsAs {cfgen pfail : Bool} (h : execPowerOn cfgen pfail s = .next t) : ActsAs c s t := by
  unfold execPowerOn at h
  split at h <;> cases h
  exacts [(MovesTo.idle rfl).actsAs, ⟨_, by rfl, (Move.restarted _).movesTo⟩]

/-! ### The part's own steps -/

theorem execTake_actsAs (h : execTake s = .next t) : ActsAs c s t := by
  unfold execTake at h
  split at h
  · next x hx =>
    split at h <;> cases h
    · next hfree =>
      obtain ⟨hnone, -⟩ | ⟨q, e, hq, -⟩ | ⟨k, e, hk, -⟩ := choice_cases s
      · rw [hnone] at hx; cases hx
      · cases hx.symm.trans e; exact (Move.headTaken (runs_mayTake.1 hfree) hq).movesTo.actsAs
      · cases hx.symm.trans e; exact (Move.foldTaken (runs_mayTake.1 hfree) hk.1).movesTo.actsAs
    · exact (MovesTo.idle rfl).actsAs
  · cases h; exact (MovesTo.idle rfl).actsAs

theorem attempt_eq_some {k : Commit} (h : s.attempt = some k) : s.commit = some k := by
  unfold State.attempt at h
  split at h
  exacts [h, by cases h]

theorem execCommitReadBack_actsAs (h : execCommitReadBack s = .next t) : ActsAs c s t := by
  unfold execCommitReadBack at h
  split at h <;> cases h
  · next hk => exact (Move.advanced (attempt_eq_some hk)).movesTo.actsAs
  · exact (MovesTo.idle rfl).actsAs

theorem execCommitCompletion_actsAs (hc : c = .commitCompletion) (h : execCommitCompletion s = .next t) :
    ActsAs c s t := by
  unfold execCommitCompletion at h
  split at h
  · next hk hf =>
    split at h <;> cases h
    · next hstage => exact (Move.published hc (attempt_eq_some hk) hstage hf).movesTo.actsAs
    · exact (MovesTo.idle rfl).actsAs
  · cases h; exact (MovesTo.idle rfl).actsAs

theorem execAttemptFailure_actsAs (h : execAttemptFailure s = .next t) : ActsAs c s t := by
  unfold execAttemptFailure at h
  split at h <;> cases h
  · next hk => exact (Move.failed (attempt_eq_some hk)).movesTo.actsAs
  · exact (MovesTo.idle rfl).actsAs

theorem execStartupWriteCompletion_actsAs {matched : Bool} (h : execStartupWriteCompletion matched s = .next t) :
    ActsAs c s t := by
  unfold execStartupWriteCompletion at h
  split at h
  · next hj =>
    split at h <;> cases h
    exacts [(Move.startupWrite hj matched).movesTo.actsAs, (MovesTo.idle rfl).actsAs]
  · cases h; exact (MovesTo.idle rfl).actsAs

end

/-! ### Every step is one move -/

theorem exec_actsAs {c : Instr} {s t : State} (h : exec c s = .next t) : ActsAs c s t := by
  cases c
  case transactionStart => exact execTransactionStart_actsAs h
  case registerWrite => exact execRegisterWrite_actsAs h
  case multiByteReadCapture => exact execMultiByteReadCapture_actsAs h
  case operand => exact execOperand_actsAs h
  case readout => exact execReadout_actsAs h
  case events => exact execEvents_actsAs h
  case eventEnable => exact execEventEnable_actsAs h
  case openDraft => exact execOpen_actsAs h
  case leg => exact execLeg_actsAs h
  case field => exact execField_actsAs h
  case submit => exact execSubmit_actsAs h
  case discard => exact execDiscard_actsAs h
  case cancel => exact execCancel_actsAs h
  case writePending => exact execWritePending_actsAs h
  case ackStatus => exact execAckStatus_actsAs h
  case pop => exact execPop_actsAs h
  case pin => exact execPin_actsAs h
  case unpin => exact execUnpin_actsAs h
  case softReset => exact execSoftReset_actsAs h
  case gateOpen => exact execGateOpen_actsAs h
  case gateClose => exact execGateClose_actsAs h
  case foldNow => exact execFoldNow_actsAs h
  case clearFault => exact execClearFault_actsAs h
  case ackStray => exact execAckStray_actsAs h
  case loadTotaliser => exact execLoadTotaliser_actsAs h
  case loadConstant => exact execLoadConstant_actsAs h
  case loadChannel => exact execLoadChannel_actsAs h
  case loadQueueEntry => exact execLoadQueueEntry_actsAs h
  case loadJournal => exact execLoadJournal_actsAs h
  case loadCheckpoint => exact execLoadCheckpoint_actsAs h
  case loadDraft => exact execLoadDraft_actsAs h
  case loadStartupReport => exact execLoadStartupReport_actsAs h
  case unknownCommand => exact execUnknownCommand_actsAs h
  case edge => exact execEdge_actsAs h
  case cfgenChange => exact execCfgenChange_actsAs h
  case pfailAssertion => exact execPfailAssertion_actsAs h
  case pfailDeassertion => exact execPfailDeassertion_actsAs h
  case resetLineAssertion => exact execResetLineAssertion_actsAs h
  case resetLineRelease => exact execResetLineRelease_actsAs h
  case powerLoss => exact execPowerLoss_actsAs h
  case powerOn => exact execPowerOn_actsAs h
  case startupWriteCompletion => exact execStartupWriteCompletion_actsAs h
  case take => exact execTake_actsAs h
  case commitCompletion => exact execCommitCompletion_actsAs rfl h
  case attemptFailure => exact execAttemptFailure_actsAs h
  case commitTimeout => exact execAttemptFailure_actsAs h
  case transactionEnd => cases h; exact (MovesTo.idle rfl).actsAs
  case commitReadBack => exact execCommitReadBack_actsAs h

/-- A step leaves the state as it was, but for the queue of commands, or is one move of the front command. -/
theorem step_cases {s t : State} (h : step s = .next t) :
    (s.pending = [] ∧ t = s) ∨ ∃ c rest, s.pending = c :: rest ∧ ActsAs c s t := by
  unfold step at h
  split at h
  · next hp => cases h; exact .inl ⟨hp, rfl⟩
  · next c rest hp =>
    obtain ⟨u, hu, hmove⟩ := exec_actsAs h
    exact .inr ⟨c, rest, hp, u, hu, hmove⟩

/-- A law that reads no more than the laws do and that every move keeps is kept by every step. `Q` is what the law's
own keeping needs besides. -/
theorem step_keeps {P Q : State → Prop} (hP : ∀ {s t : State}, s.bare = t.bare → P s → P t)
    (hQ : ∀ {s t : State}, s.bare = t.bare → Q s → Q t) (hmove : ∀ {c s t}, Move c s t → Q s → P s → P t)
    {s t : State} (hq : Q s) (hp : P s) (h : step s = .next t) : P t := by
  obtain ⟨-, rfl⟩ | ⟨c, rest, -, u, hu, v, huv, hv⟩ := step_cases h
  · exact hp
  · exact hP hv (hmove huv (hQ hu.symm hq) (hP hu.symm hp))

end Sys2Proof.Machine
end

section
/-! PROOFS. The take and the publication as updates of the state before them (R93, R107, R129, R139, R171): what each
writes, and that it writes nothing else. -/

namespace Sys2Proof.Machine

/-! ### The takes (R93, R129, R139) -/

/-- R78, R93, R137, R155: what the take of the head changes. -/
theorem takeHead_eq {s : State} {q : QueueItem} {rest : List QueueItem} (hitems : s.queue.items = q :: rest) :
    takeHead q s =
      { s with
        queue := { s.queue with items := { q with active := true } :: rest }
        engine := { s.engine with
          state := .persisting
          inFlight := some { item := .queued { q with active := true }, prepared := prepareItem s q }
          fairness := 0 }
        commit := some (s.firstAttempt (prepareItem s q))
        channels := (match (prepareItem s q).channelConfig with
          | some (c, _) => s.channels.set c
              { config := s.channels[c].config, run := { s.channels[c].run with configInFlight := true } }
          | none => s.channels)
        checkpoints := (match (prepareItem s q).capture with
          | some (i, _) => { s.checkpoints with
              slots := s.checkpoints.slots.set i { s.checkpoints.slots[i] with inFlight := true } }
          | none => s.checkpoints) } := by
  have hconfigs (c : Fin 8) : (Vector.ofFn fun k : Fin 8 => (s.channels.set c { s.channels[c] with
      run := { s.channels[c].run with configInFlight := true } })[k].config) =
        Vector.ofFn fun k : Fin 8 => s.channels[k].config := by
    congr 1
    funext k
    by_cases e : c = k
    · subst e; simp
    · have ev : (c : Nat) ≠ k := fun h => e (Fin.ext h)
      simp [ev]
  simp only [takeHead, activateHead, hitems]
  cases hc : (prepareItem s q).channelConfig with
  | none =>
    cases hk : (prepareItem s q).capture <;> simp [markChannelFlight, markSlotFlight, hc, hk, beginFlight, State.firstAttempt]
  | some x =>
    have := hconfigs x.1
    simp only [Fin.getElem_fin] at this
    cases hk : (prepareItem s q).capture <;>
      simp [markChannelFlight, markSlotFlight, hc, hk, beginFlight, State.firstAttempt, setChannel, this]

/-- R104: the configurations of the channels are not changed by a count handed over. -/
theorem configs_set_run (channels : Vector Channel 8) (k : Fin 8) (r : ChannelRun) :
    (Vector.ofFn fun c : Fin 8 => (channels.set k { channels[k] with run := r })[c].config) =
      Vector.ofFn fun c : Fin 8 => channels[c].config := by
  congr 1
  funext c
  by_cases e : k = c
  · subst e; simp
  · have ev : (k : Nat) ≠ c := fun h => e (Fin.ext h)
    simp [ev]

/-- R91 to R93, R129: what the take of a FOLD changes. -/
theorem takeFold_eq (c : Fin 8) (s : State) :
    takeFold c s =
      { s with
        channels := s.channels.set c { config := s.channels[c].config, run := s.channels[c].run.handedOver }
        engine := { s.engine with
          state := .persisting
          inFlight := some { item := .fold c, prepared := prepareFold s c }
          fairness := if s.offeredHead.isSome then s.engine.fairness + 1 else 0
          lastServed := c }
        commit := some (s.firstAttempt (prepareFold s c)) } := by
  have hconfigs := configs_set_run s.channels c s.channels[c].run.handOver
  simp only [takeFold, beginFlight, handOverChannel, setChannel, State.firstAttempt, hconfigs]
  rfl

/-- R139: which channels the emergency fold covers. -/
theorem mem_covered {s : State} {c : Fin 8} : c ∈ s.covered ↔ 0 < s.channels[c].run.unfolded := by
  simp [State.covered]

theorem covered_nodup (s : State) : s.covered.Nodup := (List.nodup_finRange 8).filter _

/-- R139: several channels hand over their counts. -/
theorem handOverAll_eq (cs : List (Fin 8)) (hn : cs.Nodup) (s : State) :
    handOverAll cs s = { s with channels := Vector.ofFn fun c =>
      if c ∈ cs then { s.channels[c] with run := s.channels[c].run.handedOver } else s.channels[c] } := by
  unfold handOverAll
  induction cs generalizing s with
  | nil => simp
  | cons k rest ih =>
    obtain ⟨hk, hrest⟩ := List.nodup_cons.1 hn
    rw [List.foldl_cons, ih hrest]
    simp only [handOverChannel, setChannel]
    congr 1
    apply Vector.ext
    intro i hi
    simp only [Vector.getElem_ofFn, List.mem_cons]
    by_cases e : k = ⟨i, hi⟩
    · subst e
      simp [hk]
      rfl
    · have ev : (k : Nat) ≠ i := fun h => e (Fin.ext h)
      have en : (⟨i, hi⟩ : Fin 8) ≠ k := fun h => e h.symm
      simp [ev, en]

theorem emergencyTaken_configs (s : State) :
    (Vector.ofFn fun c : Fin 8 => s.emergencyTaken.channels[c].config) = Vector.ofFn fun c : Fin 8 => s.channels[c].config := by
  congr 1
  funext c
  simp only [State.emergencyTaken, Fin.getElem_fin, Vector.getElem_ofFn]
  split <;> rfl

theorem beginFlight_emergency (s : State) :
    beginFlight .emergency (prepareEmergency s) (handOverAll s.covered s) = s.emergencyTaken := by
  have hconfigs := emergencyTaken_configs s
  rw [handOverAll_eq _ (covered_nodup s)]
  simp only [State.emergencyTaken] at hconfigs
  simp only [beginFlight, mem_covered, State.emergencyTaken, State.firstAttempt, hconfigs]

theorem covered_isEmpty {s : State} : s.covered.isEmpty = true ↔ ¬∃ c : Fin 8, 0 < s.channels[c].run.unfolded := by
  simp only [List.isEmpty_iff, List.eq_nil_iff_forall_not_mem, mem_covered, not_exists]

/-- R171: the emergency step as its two outcomes. -/
theorem emergencyStep_eq (s : State) : emergencyStep s = s.emergencyStepped := by
  have hroom : decide (Config.journalCapacity ≤ s.journalCount) = true ↔ ¬s.journal.entries.length ≤ 31 := by
    rw [decide_eq_true_eq, State.journalCount, Config.journalCapacity]
    omega
  unfold emergencyStep State.emergencyStepped
  by_cases h : (∃ c : Fin 8, 0 < s.channels[c].run.unfolded) ∧ s.journal.entries.length ≤ 31
  · rw [if_pos h, if_neg, beginFlight_emergency]
    rw [Bool.or_eq_true, covered_isEmpty, hroom]
    exact fun hn => hn.elim (fun hc => hc h.1) fun hr => hr h.2
  · rw [if_neg h, if_pos]
    · rfl
    · rw [Bool.or_eq_true, covered_isEmpty, hroom]
      exact not_and_or.1 h

/-! ### The publication by its owners (R107) -/

/-- R131, R132: the channels after one fold is published. -/
def foldPublished (pfTaken : Bool) (channels : Vector Channel 8) (f : FlightFold) : Vector Channel 8 :=
  channels.set f.data.channel
    (if f.placed then channels[f.data.channel].endApplied pfTaken else channels[f.data.channel].endRejected f.data)

/-- R139: the channels after one covered channel's part is published. -/
def coveredPublished (channels : Vector Channel 8) (f : FlightFold) : Vector Channel 8 :=
  channels.set f.data.channel (channels[f.data.channel].endEmergency f)

/-- R131, R132, R139: the channels after an item's folds are published. -/
def channelsPublished (pfTaken : Bool) (channels : Vector Channel 8) (folds : List FlightFold) :
    FlightItem → Vector Channel 8
  | .queued _ => channels
  | .fold _ => folds.foldl (foldPublished pfTaken) channels
  | .emergency => folds.foldl coveredPublished channels

/-- R136: the channels after an item's channel configuration is published. -/
def channelsConfigured (channels : Vector Channel 8) : Option (Fin 8 × ChannelConfig) → Vector Channel 8
  | some (c, n) => channels.set c { config := n, run := channels[c].run.reconfigured n.enabled }
  | none => channels

/-- R53: the constant table after an item's bank is published. -/
def constantsPublished (constants : Constants) (p : Prepared) : Constants :=
  match p.bank with
  | some b => { constants with active := b, epoch := p.control.epoch, lock := none }
  | none => constants

/-- R157: the checkpoint bank after an item's capture is published. -/
def checkpointsPublished (checkpoints : Checkpoints) (p : Prepared) : Checkpoints :=
  match p.capture with
  | some (i, c) =>
    { slots := checkpoints.slots.set i { content := some c, pinned := false, inFlight := false }
      counter := p.control.checkpoint }
  | none => checkpoints

/-- R79: the queue after an item is published. -/
def queuePublished (queue : Queue) : FlightItem → Queue
  | .queued _ => { queue with items := queue.items.tail, spaceWanted := false }
  | _ => queue

/-- R33, R34, R42: the totaliser table after an item is published. -/
def totalsPublished (totals : Vector Totaliser 64) (p : Prepared) : Vector Totaliser 64 :=
  clearFlagsOf (markAll (giveRecords totals p.records) p.marks) p.clearFlags

section
variable (f : InFlight) (p : Prepared) (s : State)

theorem publishTotals_eq : ∃ ev,
    publishTotals p s = { s with totals := totalsPublished s.totals p, events := ev } := by
  unfold publishTotals
  cases anyNewFlag s.totals p.marks
  exacts [⟨_, rfl⟩, ⟨_, rfl⟩]

theorem publishJournal_eq : ∃ ev,
    publishJournal p s = { s with
      journal := { s.journal with counter := s.journal.counter + 1, entries := s.journal.entries ++ [p.entry] }
      events := ev } := by
  unfold publishJournal
  dsimp only
  cases decide (Config.heldAt ≤ (s.journal.entries ++ [p.entry]).length)
  exacts [⟨_, rfl⟩, ⟨_, rfl⟩]

theorem publishQueue_eq (item : FlightItem) : ∃ ev,
    publishQueue item s = { s with queue := queuePublished s.queue item, events := ev } := by
  cases item with
  | queued q =>
    rcases announceSpace_cases { s with queue := { s.queue with items := s.queue.items.tail } } with ⟨-, e⟩ | ⟨hw, e⟩
    · exact ⟨_, by simp only [publishQueue, removeItems, e, queuePublished]; rfl⟩
    · exact ⟨s.events, by simp only [publishQueue, removeItems, e, queuePublished, ← hw]⟩
  | fold k => exact ⟨_, rfl⟩
  | emergency => exact ⟨_, rfl⟩

theorem publishConstants_eq : publishConstants p s = { s with constants := constantsPublished s.constants p } := by
  unfold publishConstants constantsPublished
  cases p.bank <;> rfl

theorem publishConfig_eq :
    publishConfig p s = { s with
      generation := p.control.generation, channels := channelsConfigured s.channels p.channelConfig } := by
  unfold publishConfig
  cases p.channelConfig <;> rfl

theorem publishFold_eq (x : FlightFold) : ∃ ev,
    publishFold x s = { s with channels := foldPublished s.pfTaken s.channels x, events := ev } := by
  unfold publishFold foldPublished
  dsimp only
  cases x.placed
  · cases (s.channels[x.data.channel].run.losesBack x.data.count)
    exacts [⟨_, rfl⟩, ⟨_, rfl⟩]
  · cases (s.channels[x.data.channel].closesApplied)
    exacts [⟨_, rfl⟩, ⟨_, rfl⟩]

theorem publishCovered_eq (x : FlightFold) : ∃ ev,
    publishCovered x s = { s with channels := coveredPublished s.channels x, events := ev } := by
  unfold publishCovered coveredPublished
  dsimp only
  cases (!x.placed && s.channels[x.data.channel].run.losesBack x.data.count)
  exacts [⟨_, rfl⟩, ⟨_, rfl⟩]

theorem publishChannels_eq (item : FlightItem) (folds : List FlightFold) : ∃ ev,
    publishChannels item folds s = { s with
      channels := channelsPublished s.pfTaken s.channels folds item, events := ev } := by
  cases item with
  | queued q => exact ⟨_, rfl⟩
  | fold k =>
    simp only [publishChannels, channelsPublished]
    induction folds generalizing s with
    | nil => exact ⟨_, rfl⟩
    | cons x rest ih =>
      obtain ⟨ev, e⟩ := publishFold_eq s x
      obtain ⟨ev', e'⟩ := ih { s with channels := foldPublished s.pfTaken s.channels x, events := ev }
      exact ⟨ev', by rw [List.foldl_cons, e, e', List.foldl_cons]⟩
  | emergency =>
    simp only [publishChannels, channelsPublished]
    induction folds generalizing s with
    | nil => exact ⟨_, rfl⟩
    | cons x rest ih =>
      obtain ⟨ev, e⟩ := publishCovered_eq s x
      obtain ⟨ev', e'⟩ := ih { s with channels := coveredPublished s.channels x, events := ev }
      exact ⟨ev', by rw [List.foldl_cons, e, e', List.foldl_cons]⟩

theorem publishCheckpoint_eq :
    publishCheckpoint p s = { s with checkpoints := checkpointsPublished s.checkpoints p } := by
  unfold publishCheckpoint checkpointsPublished
  cases p.capture <;> rfl

/-- R107: everything an item's publication changes. -/
theorem publishOwners_eq : ∃ ev,
    publishOwners f s = { s with
      totals := totalsPublished s.totals f.prepared
      journal := { s.journal with
        counter := s.journal.counter + 1, entries := s.journal.entries ++ [f.prepared.entry] }
      queue := queuePublished s.queue f.item
      constants := constantsPublished s.constants f.prepared
      generation := f.prepared.control.generation
      channels := channelsPublished s.pfTaken (channelsConfigured s.channels f.prepared.channelConfig)
        f.prepared.folds f.item
      checkpoints := checkpointsPublished s.checkpoints f.prepared
      events := ev } := by
  unfold publishOwners
  obtain ⟨ev1, e1⟩ := publishTotals_eq f.prepared s
  rw [e1]
  obtain ⟨ev2, e2⟩ := publishJournal_eq f.prepared
    { s with totals := totalsPublished s.totals f.prepared, events := ev1 }
  rw [e2]
  obtain ⟨ev3, e3⟩ := publishQueue_eq { s with
    totals := totalsPublished s.totals f.prepared
    journal := { s.journal with counter := s.journal.counter + 1, entries := s.journal.entries ++ [f.prepared.entry] }
    events := ev2 } f.item
  rw [e3, publishConstants_eq, publishConfig_eq]
  obtain ⟨ev4, e4⟩ := publishChannels_eq { s with
    totals := totalsPublished s.totals f.prepared
    journal := { s.journal with counter := s.journal.counter + 1, entries := s.journal.entries ++ [f.prepared.entry] }
    queue := queuePublished s.queue f.item
    constants := constantsPublished s.constants f.prepared
    generation := f.prepared.control.generation
    channels := channelsConfigured s.channels f.prepared.channelConfig
    events := ev3 } f.item f.prepared.folds
  rw [e4, publishCheckpoint_eq]
  exact ⟨ev4, rfl⟩

end

/-! ### What follows a publication (R108, R114, R171, R173) -/

/-- R107, R108: the state once an item is published, before what may follow. -/
def publishedState (f : InFlight) (c : Commit) (s : State) : State :=
  engineAfterPublication (publishOwners f (commitRetired c s))

theorem publishedState_eq (f : InFlight) (c : Commit) (s : State) :
    publishedState f c s = { s with
      nv := s.nv.writeControl true c.intent.controlCopy c.intent.control
      current := s.current.afterCommit c.intent
      commit := none
      totals := totalsPublished s.totals f.prepared
      journal := { s.journal with
        counter := s.journal.counter + 1, entries := s.journal.entries ++ [f.prepared.entry] }
      queue := queuePublished s.queue f.item
      constants := constantsPublished s.constants f.prepared
      generation := f.prepared.control.generation
      channels := channelsPublished s.pfTaken (channelsConfigured s.channels f.prepared.channelConfig)
        f.prepared.folds f.item
      checkpoints := checkpointsPublished s.checkpoints f.prepared
      events := (publishOwners f (commitRetired c s)).events
      engine := { s.engine with
        inFlight := none
        state := if 30 ≤ s.journal.entries.length then .held else .idle } } := by
  obtain ⟨ev, e⟩ := publishOwners_eq f (commitRetired c s)
  have hlen : (s.journal.entries ++ [f.prepared.entry]).length = s.journal.entries.length + 1 := by simp
  have hheld : Config.heldAt ≤ s.journal.entries.length + 1 ↔ 30 ≤ s.journal.entries.length := by
    rw [Config.heldAt]
    omega
  rw [publishedState, e]
  simp only [engineAfterPublication, State.journalCount, commitRetired, hlen, hheld]

/-- R108, R114, R171, R173: a commit completion is the publication and one of four things after it. -/
theorem completeCommit_cases (c : Commit) (f : InFlight) (s : State) :
    (f.item = .emergency ∧ completeCommit c f s = enterPowerdown (publishedState f c s)) ∨
    (f.item ≠ .emergency ∧ s.pfTaken = true ∧ completeCommit c f s = (publishedState f c s).emergencyStepped) ∨
    (f.item ≠ .emergency ∧ s.pfTaken = false ∧ s.engine.deferredReset = true ∧
      completeCommit c f s = beginStartup (publishedState f c s)) ∨
    (f.item ≠ .emergency ∧ s.pfTaken = false ∧ s.engine.deferredReset = false ∧
      completeCommit c f s = publishedState f c s) := by
  have hpf : (publishedState f c s).pfTaken = s.pfTaken := by rw [publishedState_eq]
  have hreset : (publishedState f c s).engine.deferredReset = s.engine.deferredReset := by rw [publishedState_eq]
  have e : completeCommit c f s =
      if f.item = .emergency then enterPowerdown (publishedState f c s)
      else if s.pfTaken then (publishedState f c s).emergencyStepped
      else if s.engine.deferredReset then beginStartup (publishedState f c s)
      else publishedState f c s := by
    rw [← hpf, ← hreset, ← emergencyStep_eq]
    rfl
  rw [e]
  by_cases hi : f.item = .emergency
  · exact .inl ⟨hi, if_pos hi⟩
  · cases s.pfTaken <;> cases s.engine.deferredReset <;> simp [hi]

/-! ### A commit failure, a PFAIL assertion and a cut -/

/-- R106, R167: a failed attempt is made again once, and the second failure ends the commit. -/
theorem failAttempt_cases (c : Commit) (s : State) :
    (c.second = false ∧ failAttempt c s =
      { s with nv := s.nv.breakCommit false c, commit := some { c with second := true, stage := .intent } }) ∨
    (c.second = true ∧
      let u := (({ s with nv := { s.nv.breakCommit false c with intent := .bad }, commit := none } : State).raised .nvFault)
      (s.pfTaken = true ∧ failAttempt c s = enterPowerdown u) ∨
      (s.pfTaken = false ∧ s.engine.deferredReset = false ∧
        failAttempt c s = { u with device := .halted, engine := { u.engine with state := .halted } }) ∨
      (s.pfTaken = false ∧ s.engine.deferredReset = true ∧
        failAttempt c s = beginStartup { u with device := .halted, engine := { u.engine with state := .halted } })) := by
  unfold failAttempt commitFailure
  cases c.second
  · exact .inl ⟨rfl, rfl⟩
  · refine .inr ⟨rfl, ?_⟩
    by_cases hpf : s.pfTaken = true
    · exact .inl ⟨hpf, if_pos hpf⟩
    · by_cases hreset : s.engine.deferredReset = true
      · exact .inr (.inr ⟨Bool.eq_false_iff.2 hpf, hreset, (if_neg hpf).trans (if_pos hreset)⟩)
      · exact .inr (.inl ⟨Bool.eq_false_iff.2 hpf, Bool.eq_false_iff.2 hreset, (if_neg hpf).trans (if_neg hreset)⟩)

/-- R170, R171: a PFAIL assertion taken ends HALTED, marks a flight, or leads to the emergency step. -/
theorem takePowerFail_cases (s : State) :
    let u : State := ({ s with pfTaken := true, engine := { s.engine with deferredReset := false } } : State).raised .pfail
    (s.device = .halted ∧ takePowerFail s = enterPowerdown u) ∨
    (s.device ≠ .halted ∧ s.engine.state = .persisting ∧ takePowerFail s = u) ∨
    (s.device ≠ .halted ∧ s.engine.state ≠ .persisting ∧ takePowerFail s = u.emergencyStepped) := by
  by_cases hd : s.device = .halted
  · exact .inl ⟨hd, if_pos hd⟩
  · by_cases he : s.engine.state = .persisting
    · exact .inr (.inl ⟨hd, he, (if_neg hd).trans (if_pos he)⟩)
    · exact .inr (.inr ⟨hd, he, (if_neg hd).trans ((if_neg he).trans (emergencyStep_eq _))⟩)

end Sys2Proof.Machine
end

section
/-! PROOFS. Resets, cuts and start-up writes by their outcomes, and the laws of the phase and of the posting queue
(R73, R75, R76, R87, R169). -/

namespace Sys2Proof.Machine

/-! ### The outcomes of a cut and of a start-up write (R168, R174, R181) -/

/-- R171: the two outcomes of the emergency step. -/
theorem emergencyStepped_cases (s : State) :
    ((∃ c : Fin 8, 0 < s.channels[c].run.unfolded) ∧ s.journal.entries.length ≤ 31 ∧
      s.emergencyStepped = s.emergencyTaken) ∨ s.emergencyStepped = enterPowerdown s := by
  unfold State.emergencyStepped
  split
  · next h => exact .inl ⟨h.1, h.2, rfl⟩
  · exact .inr rfl

/-- R168, R174: what a reset or power loss leaves of the array. -/
def State.cutArray (s : State) (written : Bool) : NvArray :=
  let nv := match s.commit with
    | some c => s.nv.breakCommit written c
    | none => s.nv
  match s.startup with
  | some j => nv.breakStartup written j
  | none => nv

theorem cutWrites_eq (written : Bool) (s : State) :
    cutWrites written s = { s with nv := s.cutArray written, commit := none, startup := none } := rfl

/-- The array that the end of start-up loads from: the format's values where a format failed twice (R181). -/
def StartupJob.loadedArray (j : StartupJob) (fault : Bool) (nv : NvArray) : NvArray :=
  if fault && j.action == .formatted && !j.settle.isEmpty then NvArray.formatted else nv

/-- R178 to R181: everything that the end of start-up changes. -/
theorem endStartup_eq (j : StartupJob) (fault : Bool) (s : State) : ∃ ev,
    endStartup j fault s =
      { loadTables (j.loadedArray fault s.nv) j.control (if fault then j.copy else j.copy.other) s with
        startup := none
        boot := j.control.boot + 1
        report := startupReport (j.loadedArray fault s.nv) j.control (j.control.boot + 1) j.action fault
        device := deviceAfterStartup s.pfail fault
        pfTaken := s.pfail
        engine := { s.engine with
          state :=
            engineAfterStartup s.pfail fault (restoreEntries (j.loadedArray fault s.nv) j.control).length }
        events := ev } := by
  simp only [endStartup, loadTables, StartupJob.loadedArray]
  cases s.pfail <;> cases fault
  exacts [⟨_, rfl⟩, ⟨_, rfl⟩, ⟨_, rfl⟩, ⟨_, rfl⟩]

/-- R181: everything that the completion of a start-up write can do. -/
theorem startupWriteDone_cases (matched : Bool) (j : StartupJob) (s : State) :
    (matched = true ∧ j.settle = [] ∧
      startupWriteDone matched j s = endStartup j false { s with nv := s.nv.write true j.bootWrite }) ∨
    (matched = true ∧ (∃ w rest, j.settle = w :: rest ∧
      startupWriteDone matched j s =
        { s with nv := s.nv.write true w, startup := some (.writing j.advance) })) ∨
    (matched = false ∧ j.retried = true ∧
      startupWriteDone matched j s = endStartup j true { s with nv := s.nv.write false j.underWay }) ∨
    (matched = false ∧ j.retried = false ∧
      startupWriteDone matched j s =
        { s with nv := s.nv.write false j.underWay, startup := some (.writing { j with retried := true }) }) := by
  unfold startupWriteDone
  cases matched
  · cases hr : j.retried
    · exact .inr (.inr (.inr ⟨rfl, rfl, rfl⟩))
    · exact .inr (.inr (.inl ⟨rfl, rfl, rfl⟩))
  · cases hs : j.settle with
    | nil => exact .inl ⟨rfl, rfl, by simp [StartupJob.underWay, hs]⟩
    | cons w rest => exact .inr (.inl ⟨rfl, w, rest, rfl, by simp [StartupJob.underWay, hs]⟩)

/-- A settling write that is not the last leaves the rest; the last puts the settled control block in force. -/
theorem StartupJob.advance_cases {j : StartupJob} {w : NvWrite} {rest : List NvWrite} (h : j.settle = w :: rest) :
    (rest = [] ∧
      j.advance = { j with settle := [], retried := false, control := j.settled, copy := j.settledCopy }) ∨
    (rest ≠ [] ∧ j.advance = { j with settle := rest, retried := false }) := by
  unfold StartupJob.advance
  cases rest with
  | nil => exact .inl ⟨rfl, by simp [h]⟩
  | cons x rest => exact .inr ⟨by simp, by simp [h]⟩

/-! ### The phase of start-up (R87, R169, R174) -/

namespace PhaseLaw
variable {s : State} (h : PhaseLaw s)
include h

theorem startup_of_device (hd : s.device ≠ .starting) : s.startup = none := by
  by_contra hs
  exact hd (h (Option.isSome_iff_ne_none.2 hs)).1

theorem startup_of_commit {k : Commit} (hk : s.commit = some k) : s.startup = none := by
  by_contra hs
  obtain ⟨-, -, hnone⟩ := h (Option.isSome_iff_ne_none.2 hs)
  cases hk.symm.trans hnone

theorem flight_of_startup {j : Startup} (hj : s.startup = some j) : s.engine.inFlight = none := by
  obtain ⟨-, hnone, -⟩ := h (by rw [hj]; rfl)
  exact hnone

theorem commit_of_startup {j : Startup} (hj : s.startup = some j) : s.commit = none := by
  obtain ⟨-, -, hnone⟩ := h (by rw [hj]; rfl)
  exact hnone

theorem device_of_startup {j : Startup} (hj : s.startup = some j) : s.device = .starting :=
  (h (by rw [hj]; rfl)).1

end PhaseLaw

theorem phaseLaw_of_startup {s : State} (h : s.startup = none) : PhaseLaw s := fun hs => by simp [h] at hs

theorem phaseLaw_beginStartup (s : State) : PhaseLaw (beginStartup s) := fun _ => ⟨rfl, rfl, rfl⟩

theorem phaseLaw_endStartup (j : StartupJob) (fault : Bool) (s : State) : PhaseLaw (endStartup j fault s) := by
  obtain ⟨ev, e⟩ := endStartup_eq j fault s
  exact phaseLaw_of_startup (by rw [e])

theorem emergencyStepped_startup (s : State) : s.emergencyStepped.startup = s.startup := by
  rcases emergencyStepped_cases s with ⟨-, -, e⟩ | e <;> rw [e] <;> rfl

theorem endHeld_cases (s : State) :
    (s.journalCount < Config.heldAt ∧ endHeld s = { s with engine := { s.engine with state := .idle } }) ∨
      endHeld s = s := by
  unfold endHeld
  split
  · next h => exact .inl ⟨h.2, rfl⟩
  · exact .inr rfl

theorem resumeStartup_cases (s : State) :
    (s.startup = some .waiting ∧ resumeStartup s = { s with startup := some (.writing (planStartup s.nv)) }) ∨
      resumeStartup s = s := by
  unfold resumeStartup
  split
  · next h => exact .inl ⟨h, rfl⟩
  · exact .inr rfl

theorem freeLock_removeItems_eq (q : QueueItem) (items : List QueueItem) (s : State) : ∃ ev lock,
    freeLock q (removeItems items s) = { s with
      queue := { s.queue with items := items, spaceWanted := false }
      constants := { s.constants with lock := lock }
      events := ev } := by
  unfold freeLock removeItems
  rcases announceSpace_cases { s with queue := { s.queue with items := items } } with ⟨-, e⟩ | ⟨hw, e⟩ <;> rw [e] <;>
    split
  · exact ⟨_, none, rfl⟩
  · exact ⟨_, s.constants.lock, rfl⟩
  · exact ⟨s.events, none, by rw [← hw]⟩
  · exact ⟨s.events, s.constants.lock, by rw [← hw]⟩

/-- The head offered is the first of the queue. -/
theorem State.Offers.items {s : State} {q : QueueItem} (h : s.Offers q) : ∃ rest, s.queue.items = q :: rest := by
  obtain ⟨hhead, -⟩ := h
  cases hitems : s.queue.items with
  | nil => simp [hitems] at hhead
  | cons x rest =>
    rw [hitems, List.head?_cons, Option.some.injEq] at hhead
    exact ⟨rest, by rw [hhead]⟩

theorem Move.keeps_phaseLaw {c : Instr} {s t : State} (hmove : Move c s t) (h : PhaseLaw s) : PhaseLaw t := by
  cases hmove
  case idle | operandPair | opened | legAdded | fieldSet | discarded | submitted | acknowledged | pinned | unpinned
    | runChanged => exact h
  case cancelled q p =>
    obtain ⟨ev, lock, e⟩ := freeLock_removeItems_eq q (s.queue.items.eraseP p) s
    rw [e]
    exact h
  case popped e rest hentries =>
    rcases endHeld_cases { s with journal := { s.journal with head := s.journal.head + 1, entries := rest } } with
      ⟨-, e⟩ | e <;> rw [e] <;> exact h
  case restarted => exact phaseLaw_beginStartup s
  case cut | resetHeld => exact phaseLaw_of_startup rfl
  case resumed =>
    rcases resumeStartup_cases s with ⟨hw, e⟩ | e <;> rw [e]
    · exact fun _ => h (by rw [hw]; rfl)
    · exact h
  case powerFailed hdevice =>
    have hnone : s.startup = none := h.startup_of_device (by rcases hdevice with e | e <;> simp [e])
    apply phaseLaw_of_startup
    rcases takePowerFail_cases s with ⟨-, e⟩ | ⟨-, -, e⟩ | ⟨-, -, e⟩ <;> rw [e]
    · exact hnone
    · exact hnone
    · exact (emergencyStepped_startup _).trans hnone
  case startupWrite j hstartup matched =>
    rcases startupWriteDone_cases matched j s with ⟨-, -, e⟩ | ⟨-, w, rest, -, e⟩ | ⟨-, -, e⟩ | ⟨-, -, e⟩ <;> rw [e]
    · exact phaseLaw_endStartup _ _ _
    · exact fun _ => h (by rw [hstartup]; rfl)
    · exact phaseLaw_endStartup _ _ _
    · exact fun _ => h (by rw [hstartup]; rfl)
  case headTaken q hfree hoffers =>
    obtain ⟨rest, hitems⟩ := hoffers.items
    have hd : s.device ≠ .starting := by simp [hfree.2.2.2.1]
    exact phaseLaw_of_startup (by rw [takeHead_eq hitems]; exact h.startup_of_device hd)
  case foldTaken k hfree _ =>
    have hd : s.device ≠ .starting := by simp [hfree.2.2.2.1]
    exact phaseLaw_of_startup (by rw [takeFold_eq]; exact h.startup_of_device hd)
  case advanced k hcommit =>
    apply phaseLaw_of_startup
    have hnone := h.startup_of_commit hcommit
    unfold commitAdvance
    split <;> exact hnone
  case published k f _ hcommit _ _ =>
    have hnone : (publishedState f k s).startup = none := by
      rw [publishedState_eq]
      exact h.startup_of_commit hcommit
    rcases completeCommit_cases k f s with ⟨-, e⟩ | ⟨-, -, e⟩ | ⟨-, -, -, e⟩ | ⟨-, -, -, e⟩ <;> rw [e]
    · exact phaseLaw_of_startup hnone
    · exact phaseLaw_of_startup ((emergencyStepped_startup _).trans hnone)
    · exact phaseLaw_beginStartup _
    · exact phaseLaw_of_startup hnone
  case failed k hcommit =>
    have hnone := h.startup_of_commit hcommit
    rcases failAttempt_cases k s with ⟨-, e⟩ | ⟨-, ⟨-, e⟩ | ⟨-, -, e⟩ | ⟨-, -, e⟩⟩ <;> rw [e]
    · exact phaseLaw_of_startup hnone
    · exact phaseLaw_of_startup hnone
    · exact phaseLaw_of_startup hnone
    · exact phaseLaw_beginStartup _

/-- Settles O53, move by move. -/
theorem phaseLawKept : Obligations.PhaseLawKept := fun _ _ hs hstep =>
  step_keeps PhaseLaw.congr (Q := fun _ => True) (fun _ _ => trivial) (fun hm _ => hm.keeps_phaseLaw) trivial hs hstep

/-! ### The posting queue (R73, R75, R76) -/

/-- The queue is what QueueLaw reads. -/
theorem QueueLaw.of_queue {s t : State} (hs : QueueLaw s) (hitems : t.queue.items = s.queue.items)
    (hseq : t.queue.nextSeq = s.queue.nextSeq) : QueueLaw t := by
  unfold QueueLaw Queue.legsHeld at *
  rw [hitems, hseq]
  exact hs

/-- Items removed from the queue leave it lawful. -/
theorem QueueLaw.of_sublist {s t : State} (hs : QueueLaw s) (hitems : t.queue.items.Sublist s.queue.items)
    (htail : ∀ q ∈ t.queue.items.tail, q ∈ s.queue.items.tail) (hseq : t.queue.nextSeq = s.queue.nextSeq) :
    QueueLaw t := by
  obtain ⟨hlen, hlegs, hactive, hnodup, hbelow⟩ := hs
  refine ⟨hitems.length_le.trans hlen, le_trans ?_ hlegs, fun q hq => hactive q (htail q hq),
    hnodup.sublist (hitems.map _), fun n hn q hq => hbelow n (hseq ▸ hn) q (hitems.subset hq)⟩
  exact List.Sublist.sum_le_sum (hitems.map _) fun _ _ => Nat.zero_le _

theorem mem_tail_of_mem_tail_eraseP {α : Type} {p : α → Bool} {l : List α} {x : α} (h : x ∈ (l.eraseP p).tail) :
    x ∈ l.tail := by
  cases l with
  | nil => simp at h
  | cons y l =>
    rw [List.eraseP_cons] at h
    cases hp : p y <;> rw [hp] at h
    · exact List.mem_of_mem_eraseP h
    · exact List.mem_of_mem_tail h

/-- R73, R75, R76: a draft that found room is appended under the next sequence number. -/
theorem queueLaw_acceptDraft {s : State} {d : Draft} {n : Word} (h : QueueLaw s) (hseq : s.queue.nextSeq = some n)
    (hroom : s.queue.items.length < Config.queueCapacity) (hlegs : d.legs.length ≤ s.queue.legsFree) :
    QueueLaw (acceptDraft d n s) := by
  obtain ⟨hlen, hheld, hactive, hnodup, hbelow⟩ := h
  have hnew : QueueItem.legs { seq := n, active := false, draft := d } = d.legs.length := by
    unfold QueueItem.legs Draft.legs
    split <;> simp_all
  have hlt : ∀ q ∈ s.queue.items, q.seq < n := fun q hq => hbelow n hseq q hq
  refine ⟨?length, ?legs, ?active, ?nodup, ?below⟩
  case length => simpa [acceptDraft] using hroom
  case legs =>
    have hsum : (acceptDraft d n s).queue.legsHeld = s.queue.legsHeld + d.legs.length := by
      simp [acceptDraft, Queue.legsHeld, hnew]
    rw [hsum]
    unfold Queue.legsFree at hlegs
    omega
  case active =>
    intro q hq
    have : q ∈ s.queue.items.tail ∨ q = { seq := n, active := false, draft := d } := by
      simp only [acceptDraft] at hq
      cases hi : s.queue.items with
      | nil => simp [hi] at hq
      | cons x rest => simpa [hi] using hq
    rcases this with hq | rfl
    exacts [hactive q hq, rfl]
  case nodup =>
    simp only [acceptDraft, List.map_append, List.map_cons, List.map_nil]
    refine List.nodup_append.2 ⟨hnodup, List.nodup_singleton _, ?_⟩
    intro a ha b hb
    obtain ⟨q, hq, rfl⟩ := List.mem_map.1 ha
    rw [List.mem_singleton.1 hb]
    exact fun e => BitVec.lt_irrefl n (e ▸ hlt q hq)
  case below =>
    intro m hm q hq
    simp only [acceptDraft, nextSequence, List.mem_append, List.mem_singleton, Option.mem_def] at hm hq
    split at hm
    · cases hm
    · next hmax =>
      cases hm
      have hn : n < n + 1 := by
        have hne : n.toNat ≠ 2 ^ 32 - 1 := fun e => hmax (BitVec.eq_of_toNat_eq (by simpa using e))
        rw [BitVec.lt_def, BitVec.toNat_add]
        have := n.isLt
        simp
        omega
      rcases hq with hq | rfl
      · exact BitVec.lt_trans (hlt q hq) hn
      · exact hn

theorem queueLaw_beginStartup (s : State) : QueueLaw (beginStartup s) := by
  refine ⟨Nat.zero_le _, Nat.zero_le _, ?_, List.nodup_nil, ?_⟩
  · intro q hq; cases hq
  · intro _ _ q hq; cases hq

theorem emergencyStepped_queue (s : State) : s.emergencyStepped.queue = s.queue := by
  rcases emergencyStepped_cases s with ⟨-, -, e⟩ | e <;> rw [e] <;> rfl

theorem QueueLaw.published {s : State} (h : QueueLaw s) (f : InFlight) (k : Commit) :
    QueueLaw (publishedState f k s) := by
  rw [publishedState_eq]
  cases hitem : f.item
  · exact h.of_sublist (List.tail_sublist _) (fun q hq => List.mem_of_mem_tail hq) rfl
  · exact h.of_queue rfl rfl
  · exact h.of_queue rfl rfl

theorem Move.keeps_queueLaw {c : Instr} {s t : State} (hmove : Move c s t) (h : QueueLaw s) : QueueLaw t := by
  cases hmove
  case idle | operandPair | opened | legAdded | fieldSet | discarded | acknowledged | pinned | unpinned | runChanged
    | cut => exact h
  case submitted d n _ hseq hroom hlegs => exact queueLaw_acceptDraft h hseq hroom hlegs
  case cancelled q p =>
    obtain ⟨ev, lock, e⟩ := freeLock_removeItems_eq q (s.queue.items.eraseP p) s
    rw [e]
    exact h.of_sublist List.eraseP_sublist (fun _ => mem_tail_of_mem_tail_eraseP) rfl
  case popped e rest hentries =>
    rcases endHeld_cases { s with journal := { s.journal with head := s.journal.head + 1, entries := rest } } with
      ⟨-, e⟩ | e <;> rw [e] <;> exact h
  case restarted => exact queueLaw_beginStartup s
  case resetHeld => exact queueLaw_beginStartup s
  case resumed => rcases resumeStartup_cases s with ⟨-, e⟩ | e <;> rw [e] <;> exact h
  case powerFailed =>
    rcases takePowerFail_cases s with ⟨-, e⟩ | ⟨-, -, e⟩ | ⟨-, -, e⟩ <;> rw [e]
    · exact h
    · exact h
    · exact h.of_queue (by rw [emergencyStepped_queue]; rfl) (by rw [emergencyStepped_queue]; rfl)
  case startupWrite j hstartup matched =>
    rcases startupWriteDone_cases matched j s with ⟨-, -, e⟩ | ⟨-, w, rest, -, e⟩ | ⟨-, -, e⟩ | ⟨-, -, e⟩ <;> rw [e]
    · obtain ⟨ev, e⟩ := endStartup_eq j false { s with nv := s.nv.write true j.bootWrite }
      rw [e]; exact h.of_queue rfl rfl
    · exact h.of_queue rfl rfl
    · obtain ⟨ev, e⟩ := endStartup_eq j true { s with nv := s.nv.write false j.underWay }
      rw [e]; exact h.of_queue rfl rfl
    · exact h
  case headTaken q hfree hoffers =>
    obtain ⟨rest, hitems⟩ := hoffers.items
    rw [takeHead_eq hitems]
    obtain ⟨hlen, hlegs, hactive, hnodup, hbelow⟩ := h
    unfold Queue.legsHeld at hlegs
    rw [hitems] at hlen hlegs hactive hnodup hbelow
    refine ⟨hlen, hlegs, hactive, hnodup, fun n hn x hx => ?_⟩
    rcases List.mem_cons.1 hx with rfl | hx
    · exact hbelow n hn q List.mem_cons_self
    · exact hbelow n hn x (List.mem_cons_of_mem _ hx)
  case foldTaken k hfree _ => rw [takeFold_eq]; exact h
  case advanced k _ => unfold commitAdvance; split <;> exact h
  case published k f _ _ _ _ =>
    have hp := h.published f k
    rcases completeCommit_cases k f s with ⟨-, e⟩ | ⟨-, -, e⟩ | ⟨-, -, -, e⟩ | ⟨-, -, -, e⟩ <;> rw [e]
    · exact hp
    · exact hp.of_queue (by rw [emergencyStepped_queue]) (by rw [emergencyStepped_queue])
    · exact queueLaw_beginStartup _
    · exact hp
  case failed k _ =>
    rcases failAttempt_cases k s with ⟨-, e⟩ | ⟨-, ⟨-, e⟩ | ⟨-, -, e⟩ | ⟨-, -, e⟩⟩ <;> rw [e]
    · exact h
    · exact h
    · exact h
    · exact queueLaw_beginStartup _

/-- Settles O55, move by move: SUBMIT alone adds an item, under the next number and within the capacities. -/
theorem queueLawKept : Obligations.QueueLawKept := fun _ _ hs hstep =>
  step_keeps QueueLaw.congr (Q := fun _ => True) (fun _ _ => trivial) (fun hm _ => hm.keeps_queueLaw) trivial hs hstep

end Sys2Proof.Machine
end

section
/-! PROOFS. The slot a CHECKPOINT chooses, what every evaluation prepares, and the laws of the epoch and of the slots
(R33, R45, R52, R107, R155, R156, R159). -/

namespace Sys2Proof.Machine

/-! ### The slot a CHECKPOINT chooses (R155) -/

theorem olderSlot_pinned {k : Checkpoints} {i : Fin 4} (h : k.slots[i].pinned = true) (best : Option (Fin 4)) :
    olderSlot k best i = best := by
  simp only [olderSlot, h, if_true]

theorem olderSlot_none {k : Checkpoints} {i : Fin 4} (h : k.slots[i].pinned = false) :
    olderSlot k none i = some i := by
  simp only [olderSlot, h, Bool.false_eq_true, if_false]

theorem olderSlot_some {k : Checkpoints} {i : Fin 4} (h : k.slots[i].pinned = false) (j : Fin 4) :
    olderSlot k (some j) i = if k.slots[j].age k.counter < k.slots[i].age k.counter then some i else some j := by
  simp only [olderSlot, h, Bool.false_eq_true, if_false]

/-- R155 step 2: going through slots keeps the oldest unpinned one met. -/
theorem foldl_olderSlot (k : Checkpoints) (l : List (Fin 4)) :
    (l.foldl (olderSlot k) none = none → ∀ i ∈ l, k.slots[i].pinned = true) ∧
    (∀ j, l.foldl (olderSlot k) none = some j → k.slots[j].pinned = false ∧
      ∀ i ∈ l, k.slots[i].pinned = false → k.slots[i].age k.counter ≤ k.slots[j].age k.counter) := by
  induction l using List.reverseRecOn with
  | nil => exact ⟨fun _ _ h => (List.not_mem_nil h).elim, fun _ h => by simp at h⟩
  | append_singleton l x ih =>
    obtain ⟨ihnone, ihsome⟩ := ih
    rw [List.foldl_append, List.foldl_cons, List.foldl_nil]
    cases hx : k.slots[x].pinned
    · cases hbest : l.foldl (olderSlot k) none with
      | none =>
        rw [olderSlot_none hx]
        refine ⟨nofun, fun j hj => ?_⟩
        cases hj
        refine ⟨hx, fun i hi hfree => ?_⟩
        rcases List.mem_append.1 hi with hi | hi
        · exact absurd (ihnone hbest i hi) (by rw [hfree]; simp)
        · rw [List.mem_singleton.1 hi]
      | some b =>
        obtain ⟨hb, hold⟩ := ihsome b hbest
        rw [olderSlot_some hx]
        refine ⟨fun h => (by split at h <;> cases h), ?_⟩
        intro j hj
        split at hj
        · next hlt =>
          cases hj
          refine ⟨hx, fun i hi hfree => ?_⟩
          rcases List.mem_append.1 hi with hi | hi
          · exact (hold i hi hfree).trans hlt.le
          · rw [List.mem_singleton.1 hi]
        · next hge =>
          cases hj
          refine ⟨hb, fun i hi hfree => ?_⟩
          rcases List.mem_append.1 hi with hi | hi
          · exact hold i hi hfree
          · rw [List.mem_singleton.1 hi]
            exact not_lt.1 hge
    · rw [olderSlot_pinned hx]
      refine ⟨fun h i hi => ?_, fun j hj => ?_⟩
      · rcases List.mem_append.1 hi with hi | hi
        · exact ihnone h i hi
        · rw [List.mem_singleton.1 hi, hx]
      · obtain ⟨hfree, hold⟩ := ihsome j hj
        refine ⟨hfree, fun i hi hi' => ?_⟩
        rcases List.mem_append.1 hi with hi | hi
        · exact hold i hi hi'
        · rw [List.mem_singleton.1 hi, hx] at hi'
          cases hi'

/-- The least index of a property is what `find?` finds among all. -/
theorem find?_finRange_eq_some {n : Nat} {p : Fin n → Bool} {i : Fin n} (h : (List.finRange n).find? p = some i) :
    p i = true ∧ ∀ j < i, p j = false := by
  obtain ⟨hp, m, hm, hi, hbelow⟩ := List.find?_eq_some_iff_getElem.1 h
  refine ⟨hp, fun j hj => ?_⟩
  rw [List.getElem_finRange] at hi
  have hjm : j.val < m := by
    rw [← hi] at hj
    exact hj
  simpa using hbelow j hjm

/-- R155: everything that the choice of a slot can be. -/
theorem chooseSlot_cases (k : Checkpoints) :
    (∃ i, chooseSlot k = some i ∧ k.slots[i].content = none ∧ ∀ j < i, k.slots[j].content.isSome = true) ∨
    (∃ i, chooseSlot k = some i ∧ (∀ j : Fin 4, k.slots[j].content.isSome = true) ∧ k.slots[i].pinned = false ∧
      ∀ j : Fin 4, k.slots[j].pinned = false → k.slots[j].age k.counter ≤ k.slots[i].age k.counter) ∨
    (chooseSlot k = none ∧ ∀ j : Fin 4, k.slots[j].content.isSome = true ∧ k.slots[j].pinned = true) := by
  unfold chooseSlot
  cases hempty : (List.finRange 4).find? fun i => k.slots[i].content.isNone with
  | some i =>
    obtain ⟨hi, hbelow⟩ := find?_finRange_eq_some hempty
    exact .inl ⟨i, rfl, Option.isNone_iff_eq_none.1 hi, fun j hj => by simpa using hbelow j hj⟩
  | none =>
    have hfull : ∀ j : Fin 4, k.slots[j].content.isSome = true := fun j => by
      have := List.find?_eq_none.1 hempty j (List.mem_finRange j)
      exact Option.isSome_iff_ne_none.2 (by simpa using this)
    obtain ⟨hnone, hsome⟩ := foldl_olderSlot k (List.finRange 4)
    cases hbest : (List.finRange 4).foldl (olderSlot k) none with
    | none => exact .inr (.inr ⟨rfl, fun j => ⟨hfull j, hnone hbest j (List.mem_finRange j)⟩⟩)
    | some i =>
      obtain ⟨hfree, hold⟩ := hsome i hbest
      exact .inr (.inl ⟨i, rfl, hfull, hfree, fun j => hold j (List.mem_finRange j)⟩)

/-! ### What every evaluation prepares (R104, R143) -/

/-- R104: the number, the control block values and the slot of what an evaluation at the take prepares. -/
structure Prepared.Sound (p : Prepared) (s : State) : Prop where
  number : p.entry.number = s.journal.counter
  counter : p.control.counter = s.journal.counter + 1
  boot : p.control.boot = s.boot
  head : p.control.head = s.journal.head
  epoch : p.bank = none → p.control.epoch = s.constants.epoch
  switched : p.bank.isSome = true → p.control.epoch = s.constants.epoch + 1
  checkpoint : p.capture = none → p.control.checkpoint = s.checkpoints.counter
  slot : ∀ x ∈ p.capture, chooseSlot s.checkpoints = some x.1

section
variable {s : State} {q : QueueItem}

theorem preparePosting_sound (expected : Half) (mode : GuardMode) (legs : List Leg) :
    (preparePosting s q expected mode legs).Sound s := by
  unfold preparePosting
  dsimp only
  split
  · exact ⟨rfl, rfl, rfl, rfl, fun _ => rfl, nofun, fun _ => rfl, nofun⟩
  · split <;> exact ⟨rfl, rfl, rfl, rfl, fun _ => rfl, nofun, fun _ => rfl, nofun⟩

theorem prepareConfigureTotaliser_sound (i : Fin 64) (f : TotFields) : (prepareConfigureTotaliser s q i f).Sound s := by
  unfold prepareConfigureTotaliser
  dsimp only
  split <;> exact ⟨rfl, rfl, rfl, rfl, fun _ => rfl, nofun, fun _ => rfl, nofun⟩

theorem prepareConfigureChannel_sound (c : Fin 8) (f : ChannelFields) : (prepareConfigureChannel s q c f).Sound s := by
  unfold prepareConfigureChannel
  dsimp only
  split <;> exact ⟨rfl, rfl, rfl, rfl, fun _ => rfl, nofun, fun _ => rfl, nofun⟩

theorem prepareSwitch_sound : (prepareSwitch s q).Sound s :=
  ⟨rfl, rfl, rfl, rfl, nofun, fun _ => rfl, fun _ => rfl, nofun⟩

theorem prepareCheckpoint_sound (selection : BitVec 64) : (prepareCheckpoint s q selection).Sound s := by
  unfold prepareCheckpoint
  dsimp only
  split
  · exact ⟨rfl, rfl, rfl, rfl, fun _ => rfl, nofun, fun _ => rfl, nofun⟩
  · next i hi =>
    refine ⟨rfl, rfl, rfl, rfl, fun _ => rfl, nofun, nofun, fun x hx => ?_⟩
    cases hx
    exact hi

theorem prepareItem_sound (s : State) (q : QueueItem) : (prepareItem s q).Sound s := by
  unfold prepareItem
  split
  exacts [preparePosting_sound _ _ _, prepareConfigureTotaliser_sound _ _, prepareConfigureChannel_sound _ _,
    prepareSwitch_sound, prepareCheckpoint_sound _]

theorem prepareFold_sound (s : State) (c : Fin 8) : (prepareFold s c).Sound s := by
  unfold prepareFold
  dsimp only
  split <;> exact ⟨rfl, rfl, rfl, rfl, fun _ => rfl, nofun, fun _ => rfl, nofun⟩

theorem prepareEmergency_sound (s : State) : (prepareEmergency s).Sound s := by
  unfold prepareEmergency
  dsimp only
  split <;> exact ⟨rfl, rfl, rfl, rfl, fun _ => rfl, nofun, fun _ => rfl, nofun⟩

/-- R34, R52, R129: a fold carries no bank, no channel configuration and no capture. -/
theorem prepareFold_alone (s : State) (c : Fin 8) :
    (prepareFold s c).bank = none ∧ (prepareFold s c).channelConfig = none ∧ (prepareFold s c).capture = none := by
  unfold prepareFold
  dsimp only
  split <;> exact ⟨rfl, rfl, rfl⟩

theorem prepareEmergency_alone (s : State) :
    (prepareEmergency s).bank = none ∧ (prepareEmergency s).channelConfig = none ∧
      (prepareEmergency s).capture = none := by
  unfold prepareEmergency
  dsimp only
  split <;> exact ⟨rfl, rfl, rfl⟩

end

/-! ### A SWITCH and a CHECKPOINT (R52, R155, R156) -/

theorem working_getElem (s : State) (i : Fin 64) : s.working[i] = s.totals[i].data := by
  simp [State.working]

/-- R156: the entries of a capture are the selected records that are not UNUSED. -/
theorem mem_captureEntries {s : State} {selection : BitVec 64} {e : CaptureEntry} :
    e ∈ captureEntries s.working selection ↔
      selection.getLsbD e.index.val = true ∧ s.totals[e.index].data.state ≠ .unused ∧
      e.state = s.totals[e.index].data.state ∧ e.value = s.totals[e.index].data.value ∧
      e.scale = s.totals[e.index].data.scale ∧ e.residue = s.totals[e.index].data.residue := by
  simp only [captureEntries, List.mem_map, List.mem_filter, List.mem_finRange, true_and, Bool.and_eq_true, bne_iff_ne,
    working_getElem]
  constructor
  · rintro ⟨i, ⟨hbit, hused⟩, rfl⟩
    exact ⟨hbit, hused, rfl, rfl, rfl, rfl⟩
  · rintro ⟨hbit, hused, hstate, hvalue, hscale, hresidue⟩
    exact ⟨e.index, ⟨hbit, hused⟩, by rw [← hstate, ← hvalue, ← hscale, ← hresidue]⟩

/-- R156: a capture lists its records in ascending order. -/
theorem captureEntries_ascending (work : Working) (selection : BitVec 64) :
    (captureEntries work selection).Pairwise fun a b => a.index < b.index := by
  unfold captureEntries
  rw [List.pairwise_map]
  exact (List.pairwise_lt_finRange 64).filter _

theorem Slot.age_of_content {x : Slot} {c : Capture} (h : x.content = some c) (counter : Word) :
    x.age counter = (counter - c.number).toNat := by
  simp only [Slot.age, h]

theorem prepareCheckpoint_of_slot {s : State} {i : Fin 4} (h : chooseSlot s.checkpoints = some i) (q : QueueItem)
    (selection : BitVec 64) :
    prepareCheckpoint s q selection =
      { s.prepare { s.itemEntry .checkpoint q with checkpoint := some (i, s.checkpoints.counter) } with
        capture := some (i,
          { number := s.checkpoints.counter, completion := s.journal.counter, boot := s.boot,
            epoch := s.constants.epoch, generation := s.generation, entries := captureEntries s.working selection })
        control := { s.nextControl with checkpoint := s.checkpoints.counter + 1 } } := by
  simp only [prepareCheckpoint, h]
  rfl

theorem prepareCheckpoint_of_none {s : State} (h : chooseSlot s.checkpoints = none) (q : QueueItem)
    (selection : BitVec 64) :
    prepareCheckpoint s q selection = s.prepare ((s.itemEntry .checkpoint q).reject .noSlot) := by
  simp only [prepareCheckpoint, h]

/-- Settles O42: a SWITCH by its definition, a CHECKPOINT by the slot that R155 chooses. -/
theorem switchAndCheckpointEvaluated : Obligations.SwitchAndCheckpointEvaluated := by
  intro s q p slots behind
  refine ⟨fun hbody => ?switch, fun selection hbody => ?checkpoint⟩
  case switch =>
    have hp : p = prepareSwitch s q := by simp only [p, prepareItem, hbody]
    rw [hp]
    exact ⟨rfl, rfl, rfl, rfl, rfl⟩
  case checkpoint =>
    have hp : p = prepareCheckpoint s q selection := by simp only [p, prepareItem, hbody]
    obtain ⟨i, hi, hempty, hbelow⟩ | ⟨i, hi, hfull, hfree, hold⟩ | ⟨hnone, hpinned⟩ := chooseSlot_cases s.checkpoints
    · rw [hp, prepareCheckpoint_of_slot hi]
      refine ⟨fun hall => absurd (hall i).1 (by rw [hempty]; simp), fun _ => ?_⟩
      exact ⟨i, _, rfl, rfl, rfl, rfl, .inl ⟨hempty, hbelow⟩, rfl, rfl, rfl, rfl, rfl,
        captureEntries_ascending _ _, fun _ => mem_captureEntries⟩
    · rw [hp, prepareCheckpoint_of_slot hi]
      refine ⟨fun hall => absurd (hall i).2 (by rw [hfree]; simp), fun _ => ?_⟩
      refine ⟨i, _, rfl, rfl, rfl, rfl, .inr ⟨hfull, hfree, fun j a b hj ha hb => ?_⟩, rfl, rfl, rfl, rfl, rfl,
        captureEntries_ascending _ _, fun _ => mem_captureEntries⟩
      have := hold j hj
      rwa [Slot.age_of_content ha, Slot.age_of_content hb] at this
    · rw [hp, prepareCheckpoint_of_none hnone]
      exact ⟨fun _ => ⟨rfl, rfl, rfl, rfl, rfl, rfl⟩, fun hnot => absurd hpinned hnot⟩

end Sys2Proof.Machine
end

section
/-! PROOFS. The laws of the epoch and of the slots, and that what is published changes at a commit completion alone
(R33, R45, R52, R107, R155, R159). -/

namespace Sys2Proof.Machine

/-! ### The laws read the flight and their own table alone -/

theorem EpochLaw.of_eq {s t : State} (h : EpochLaw s) (hflight : t.engine.inFlight = s.engine.inFlight)
    (hconstants : t.constants.epoch = s.constants.epoch) : EpochLaw t := by
  unfold EpochLaw at *
  rwa [hflight, hconstants]

theorem epochLaw_of_no_flight {s : State} (h : s.engine.inFlight = none) : EpochLaw s := fun _ hf => by
  cases h.symm.trans hf

/-- A flight prepared by a sound evaluation, begun in a state that keeps the epoch. -/
theorem epochLaw_of_sound {s t : State} {item : FlightItem} {p : Prepared} (hp : p.Sound s)
    (hflight : t.engine.inFlight = some { item := item, prepared := p })
    (hepoch : t.constants.epoch = s.constants.epoch) : EpochLaw t := by
  intro f hf hbank
  cases hflight.symm.trans hf
  exact (hp.switched hbank).trans (by rw [hepoch])

theorem SlotLaw.of_eq {s t : State} (h : SlotLaw s) (hflight : t.engine.inFlight = s.engine.inFlight)
    (hslots : t.checkpoints.slots = s.checkpoints.slots) : SlotLaw t := by
  unfold SlotLaw at *
  rwa [hflight, hslots]

/-- R159: a pinned slot is FILLED. -/
def Checkpoints.PinsFilled (k : Checkpoints) : Prop :=
  ∀ i : Fin 4, k.slots[i].pinned = true → k.slots[i].content.isSome = true

/-- With no capture in flight the pins alone matter. -/
theorem slotLaw_of_no_capture {s : State} (h : s.checkpoints.PinsFilled)
    (hnone : ∀ f ∈ s.engine.inFlight, f.prepared.capture = none) : SlotLaw s :=
  ⟨h, fun f hf x hx => by rw [hnone f hf] at hx; cases hx⟩

theorem getElem_set_slot (slots : Vector Slot 4) (i j : Fin 4) (x : Slot) :
    (slots.set i x)[j] = if i = j then x else slots[j] := by
  by_cases h : i = j
  · subst h; simp
  · have hv : (i : Nat) ≠ j := fun e => h (Fin.ext e)
    simp [hv, h]

/-- R160, R159: a pin is set only on a FILLED slot that no flight will fill. -/
theorem slotLaw_setPin {s : State} (h : SlotLaw s) (i : Fin 4) (pinned : Bool)
    (hpin : pinned = true → s.checkpoints.slots[i].content.isSome = true ∧ s.checkpoints.slots[i].inFlight = false) :
    SlotLaw (setPin i pinned s) := by
  obtain ⟨hfilled, hflight⟩ := h
  refine ⟨fun j => ?_, fun f hf x hx => ?_⟩
  · simp only [setPin, getElem_set_slot]
    split
    · next e => subst e; exact fun hp => (hpin hp).1
    · exact hfilled j
  · obtain ⟨hmark, hunpinned⟩ := hflight f hf x hx
    simp only [setPin, getElem_set_slot]
    split
    · next e =>
      subst e
      refine ⟨hmark, Bool.eq_false_iff.2 fun hp => ?_⟩
      have := (hpin hp).2
      rw [hmark] at this
      cases this
    · exact ⟨hmark, hunpinned⟩

/-- R155: the chosen slot is not pinned, since a pinned slot is FILLED. -/
theorem Checkpoints.PinsFilled.chosen_unpinned {k : Checkpoints} (h : k.PinsFilled) {i : Fin 4}
    (hi : chooseSlot k = some i) : k.slots[i].pinned = false := by
  obtain ⟨j, hj, hempty, -⟩ | ⟨j, hj, -, hfree, -⟩ | ⟨hnone, -⟩ := chooseSlot_cases k
  · cases hi.symm.trans hj
    exact Bool.eq_false_iff.2 fun hp => absurd (h i hp) (by rw [hempty]; simp)
  · cases hi.symm.trans hj
    exact hfree
  · cases hi.symm.trans hnone

/-- R155: the take of a head marks the chosen slot. -/
theorem slotLaw_takeHead {s : State} {q : QueueItem} {rest : List QueueItem} (hitems : s.queue.items = q :: rest)
    (h : SlotLaw s) : SlotLaw (takeHead q s) := by
  obtain ⟨hfilled, -⟩ := h
  have hsound := prepareItem_sound s q
  rw [takeHead_eq hitems]
  cases hcap : (prepareItem s q).capture with
  | none =>
    refine slotLaw_of_no_capture hfilled fun f hf => ?_
    cases hf
    exact hcap
  | some x =>
    have hfree := Checkpoints.PinsFilled.chosen_unpinned hfilled (hsound.slot x hcap)
    refine ⟨fun j => ?_, fun f hf y hy => ?_⟩
    · simp only [getElem_set_slot]
      split
      · next e => subst e; exact hfilled x.1
      · exact hfilled j
    · cases hf
      cases hcap.symm.trans hy
      simp only [getElem_set_slot, if_true]
      exact ⟨trivial, hfree⟩

/-! ### Every move keeps them -/

theorem acceptDraft_epoch (d : Draft) (n : Word) (s : State) :
    (acceptDraft d n s).constants.epoch = s.constants.epoch := by
  unfold acceptDraft; dsimp only; split <;> rfl

theorem acceptDraft_active (d : Draft) (n : Word) (s : State) :
    (acceptDraft d n s).constants.active = s.constants.active := by
  unfold acceptDraft; dsimp only; split <;> rfl

theorem emergencyStepped_constants (s : State) : s.emergencyStepped.constants = s.constants := by
  rcases emergencyStepped_cases s with ⟨-, -, e⟩ | e <;> rw [e] <;> rfl

theorem emergencyStepped_checkpoints (s : State) : s.emergencyStepped.checkpoints = s.checkpoints := by
  rcases emergencyStepped_cases s with ⟨-, -, e⟩ | e <;> rw [e] <;> rfl

/-- The emergency step leaves the flight, or puts the EMERGENCY_FOLD in flight. -/
theorem emergencyStepped_flight (s : State) :
    s.emergencyStepped.engine.inFlight = s.engine.inFlight ∨
      s.emergencyStepped.engine.inFlight = some { item := .emergency, prepared := prepareEmergency s } := by
  rcases emergencyStepped_cases s with ⟨-, -, e⟩ | e <;> rw [e]
  exacts [.inr rfl, .inl rfl]

theorem EpochLaw.emergencyStepped {s : State} (h : EpochLaw s) : EpochLaw s.emergencyStepped := by
  rcases emergencyStepped_flight s with hf | hf
  · exact h.of_eq hf (by rw [emergencyStepped_constants])
  · exact epochLaw_of_sound (prepareEmergency_sound s) hf (by rw [emergencyStepped_constants])

theorem SlotLaw.emergencyStepped {s : State} (h : SlotLaw s) : SlotLaw s.emergencyStepped := by
  rcases emergencyStepped_flight s with hf | hf
  · exact h.of_eq hf (by rw [emergencyStepped_checkpoints])
  · refine slotLaw_of_no_capture ?_ fun f hf' => ?_
    · rw [emergencyStepped_checkpoints]
      exact h.1
    · cases hf.symm.trans hf'
      exact (prepareEmergency_alone s).2.2

theorem checkpointsPublished_of_none {p : Prepared} (h : p.capture = none) (k : Checkpoints) :
    checkpointsPublished k p = k := by
  simp only [checkpointsPublished, h]

theorem checkpointsPublished_of_some {p : Prepared} {i : Fin 4} {c : Capture} (h : p.capture = some (i, c))
    (k : Checkpoints) :
    checkpointsPublished k p =
      { slots := k.slots.set i { content := some c, pinned := false, inFlight := false }
        counter := p.control.checkpoint } := by
  simp only [checkpointsPublished, h]

theorem publishedState_flight (f : InFlight) (k : Commit) (s : State) :
    (publishedState f k s).engine.inFlight = none := by
  rw [publishedState_eq]

theorem SlotLaw.published {s : State} (h : SlotLaw s) (f : InFlight) (k : Commit) : SlotLaw (publishedState f k s) := by
  refine slotLaw_of_no_capture (fun j => ?_) fun g hg => by cases (publishedState_flight f k s).symm.trans hg
  rw [publishedState_eq]
  dsimp only
  cases hcap : f.prepared.capture with
  | none =>
    rw [checkpointsPublished_of_none hcap]
    exact h.1 j
  | some x =>
    simp only [checkpointsPublished_of_some hcap, getElem_set_slot]
    split
    · exact fun _ => rfl
    · exact h.1 j

theorem epochLaw_beginStartup (s : State) : EpochLaw (beginStartup s) := epochLaw_of_no_flight rfl

theorem slotLaw_ramCleared (s : State) : SlotLaw s.ramCleared := by
  have hnone : s.ramCleared.engine.inFlight = none := rfl
  refine slotLaw_of_no_capture (fun j hp => ?_) fun f hf => by cases hnone.symm.trans hf
  simp [State.ramCleared, State.cleared] at hp

theorem slotLaw_beginStartup (s : State) : SlotLaw (beginStartup s) :=
  (slotLaw_ramCleared s).of_eq rfl rfl

theorem slotLaw_endStartup (j : StartupJob) (fault : Bool) {s : State} (h : s.engine.inFlight = none) :
    SlotLaw (endStartup j fault s) := by
  obtain ⟨ev, e⟩ := endStartup_eq j fault s
  rw [e]
  refine slotLaw_of_no_capture (fun i hp => ?_) fun f hf => by cases h.symm.trans hf
  simp [loadTables, restoreSlot] at hp

theorem epochLaw_endStartup (j : StartupJob) (fault : Bool) {s : State} (h : s.engine.inFlight = none) :
    EpochLaw (endStartup j fault s) := by
  obtain ⟨ev, e⟩ := endStartup_eq j fault s
  rw [e]
  exact epochLaw_of_no_flight h

theorem commitAdvance_engine (k : Commit) (s : State) : (commitAdvance k s).engine = s.engine := by
  unfold commitAdvance; split <;> rfl
theorem commitAdvance_constants (k : Commit) (s : State) : (commitAdvance k s).constants = s.constants := by
  unfold commitAdvance; split <;> rfl
theorem commitAdvance_checkpoints (k : Commit) (s : State) : (commitAdvance k s).checkpoints = s.checkpoints := by
  unfold commitAdvance; split <;> rfl

theorem Move.keeps_epochLaw {c : Instr} {s t : State} (hmove : Move c s t) (hphase : PhaseLaw s) (h : EpochLaw s) :
    EpochLaw t := by
  cases hmove
  case idle | operandPair | opened | legAdded | fieldSet | discarded | acknowledged | pinned | unpinned | runChanged
    | cut => exact h
  case submitted => exact h.of_eq rfl (acceptDraft_epoch _ _ _)
  case cancelled q p =>
    obtain ⟨ev, lock, e⟩ := freeLock_removeItems_eq q (s.queue.items.eraseP p) s
    rw [e]
    exact h
  case popped e rest hentries =>
    rcases endHeld_cases { s with journal := { s.journal with head := s.journal.head + 1, entries := rest } } with
      ⟨-, e⟩ | e <;> rw [e] <;> exact h
  case restarted | resetHeld => exact epochLaw_of_no_flight rfl
  case resumed => rcases resumeStartup_cases s with ⟨-, e⟩ | e <;> rw [e] <;> exact h
  case powerFailed =>
    rcases takePowerFail_cases s with ⟨-, e⟩ | ⟨-, -, e⟩ | ⟨-, -, e⟩ <;> rw [e]
    · exact h
    · exact h
    · exact EpochLaw.emergencyStepped (h.of_eq rfl rfl)
  case startupWrite j hstartup matched =>
    have hnone := hphase.flight_of_startup hstartup
    rcases startupWriteDone_cases matched j s with ⟨-, -, e⟩ | ⟨-, w, rest, -, e⟩ | ⟨-, -, e⟩ | ⟨-, -, e⟩ <;> rw [e]
    exacts [epochLaw_endStartup _ _ hnone, epochLaw_of_no_flight hnone, epochLaw_endStartup _ _ hnone,
      epochLaw_of_no_flight hnone]
  case headTaken q hfree hoffers =>
    obtain ⟨rest, hitems⟩ := hoffers.items
    exact epochLaw_of_sound (prepareItem_sound s q) (by rw [takeHead_eq hitems]) (by rw [takeHead_eq hitems])
  case foldTaken k hfree _ =>
    exact epochLaw_of_sound (prepareFold_sound s k) (by rw [takeFold_eq]) (by rw [takeFold_eq])
  case advanced k _ => exact h.of_eq (by rw [commitAdvance_engine]) (by rw [commitAdvance_constants])
  case published k f _ _ _ _ =>
    have hp : EpochLaw (publishedState f k s) := epochLaw_of_no_flight (publishedState_flight f k s)
    rcases completeCommit_cases k f s with ⟨-, e⟩ | ⟨-, -, e⟩ | ⟨-, -, -, e⟩ | ⟨-, -, -, e⟩ <;> rw [e]
    exacts [hp, hp.emergencyStepped, epochLaw_of_no_flight rfl, hp]
  case failed k _ =>
    rcases failAttempt_cases k s with ⟨-, e⟩ | ⟨-, ⟨-, e⟩ | ⟨-, -, e⟩ | ⟨-, -, e⟩⟩ <;> rw [e]
    exacts [h, h, h, epochLaw_of_no_flight rfl]

theorem Move.keeps_slotLaw {c : Instr} {s t : State} (hmove : Move c s t) (hphase : PhaseLaw s) (h : SlotLaw s) :
    SlotLaw t := by
  cases hmove
  case idle | operandPair | opened | legAdded | fieldSet | discarded | submitted | acknowledged | runChanged | cut =>
    exact h
  case cancelled q p =>
    obtain ⟨ev, lock, e⟩ := freeLock_removeItems_eq q (s.queue.items.eraseP p) s
    rw [e]
    exact h
  case popped e rest hentries =>
    rcases endHeld_cases { s with journal := { s.journal with head := s.journal.head + 1, entries := rest } } with
      ⟨-, e⟩ | e <;> rw [e] <;> exact h
  case pinned i hfilled hfree => exact slotLaw_setPin h i true fun _ => ⟨hfilled, hfree⟩
  case unpinned i => exact slotLaw_setPin h i false nofun
  case restarted => exact slotLaw_beginStartup s
  case resetHeld => exact slotLaw_ramCleared _
  case resumed => rcases resumeStartup_cases s with ⟨-, e⟩ | e <;> rw [e] <;> exact h
  case powerFailed =>
    rcases takePowerFail_cases s with ⟨-, e⟩ | ⟨-, -, e⟩ | ⟨-, -, e⟩ <;> rw [e]
    · exact h
    · exact h
    · exact SlotLaw.emergencyStepped (h.of_eq rfl rfl)
  case startupWrite j hstartup matched =>
    have hnone := hphase.flight_of_startup hstartup
    rcases startupWriteDone_cases matched j s with ⟨-, -, e⟩ | ⟨-, w, rest, -, e⟩ | ⟨-, -, e⟩ | ⟨-, -, e⟩ <;> rw [e]
    exacts [slotLaw_endStartup _ _ hnone, h.of_eq rfl rfl, slotLaw_endStartup _ _ hnone, h.of_eq rfl rfl]
  case headTaken q hfree hoffers =>
    obtain ⟨rest, hitems⟩ := hoffers.items
    exact slotLaw_takeHead hitems h
  case foldTaken k hfree _ =>
    rw [takeFold_eq]
    refine slotLaw_of_no_capture h.1 fun f hf => ?_
    cases hf
    exact (prepareFold_alone s k).2.2
  case advanced k _ => exact h.of_eq (by rw [commitAdvance_engine]) (by rw [commitAdvance_checkpoints])
  case published k f _ _ _ _ =>
    have hp := h.published f k
    rcases completeCommit_cases k f s with ⟨-, e⟩ | ⟨-, -, e⟩ | ⟨-, -, -, e⟩ | ⟨-, -, -, e⟩ <;> rw [e]
    exacts [hp.of_eq rfl rfl, hp.emergencyStepped, slotLaw_beginStartup _, hp]
  case failed k _ =>
    rcases failAttempt_cases k s with ⟨-, e⟩ | ⟨-, ⟨-, e⟩ | ⟨-, -, e⟩ | ⟨-, -, e⟩⟩ <;> rw [e]
    exacts [h, h, h, slotLaw_beginStartup _]

/-! ### What is published (R33, R107) -/

theorem SamePublished.of_eq {s t : State} (htotals : ∀ i : Fin 64, t.totals[i].data = s.totals[i].data)
    (hactive : t.constants.active = s.constants.active) (hepoch : t.constants.epoch = s.constants.epoch)
    (hgeneration : t.generation = s.generation) (hcounter : t.journal.counter = s.journal.counter)
    (hchannels : ∀ c : Fin 8, t.channels[c].config = s.channels[c].config)
    (hslots : ∀ i : Fin 4, t.checkpoints.slots[i].content = s.checkpoints.slots[i].content) : SamePublished s t :=
  ⟨htotals, hactive, hepoch, hgeneration, hcounter, hchannels, hslots⟩

theorem SamePublished.rfl' (s : State) : SamePublished s s :=
  ⟨fun _ => rfl, rfl, rfl, rfl, rfl, fun _ => rfl, fun _ => rfl⟩

/-- R33, R107: a move that neither begins nor ends a start-up is a publication or changes nothing published. -/
theorem Move.samePublished_or_published {c : Instr} {s t : State} (hmove : Move c s t) (hphase : PhaseLaw s)
    (hs : s.device ≠ .starting) (ht : t.device ≠ .starting) :
    SamePublished s t ∨
      c = .commitCompletion ∧ ∃ k f, s.engine.inFlight = some f ∧ t = completeCommit k f s := by
  have hsame := SamePublished.rfl' s
  cases hmove
  case idle | operandPair | opened | legAdded | fieldSet | discarded | cut => exact .inl hsame
  case submitted d n hdraft _ _ _ =>
    exact .inl (.of_eq (fun _ => rfl) (acceptDraft_active d n s) (acceptDraft_epoch d n s) rfl rfl (fun _ => rfl) fun _ => rfl)
  case cancelled q p =>
    obtain ⟨ev, lock, e⟩ := freeLock_removeItems_eq q (s.queue.items.eraseP p) s
    rw [e]
    exact .inl hsame
  case acknowledged i =>
    refine .inl (.of_eq (fun j => ?_) rfl rfl rfl rfl (fun _ => rfl) fun _ => rfl)
    by_cases e : i = j
    · subst e; simp [Totaliser.unmarked]
    · have ev : (i : Nat) ≠ j := fun h => e (Fin.ext h)
      simp [ev]
  case popped e rest hentries =>
    rcases endHeld_cases { s with journal := { s.journal with head := s.journal.head + 1, entries := rest } } with
      ⟨-, e⟩ | e <;> rw [e] <;> exact .inl hsame
  case pinned i _ _ | unpinned i =>
    refine .inl (.of_eq (fun _ => rfl) rfl rfl rfl rfl (fun _ => rfl) fun j => ?_)
    simp only [setPin, getElem_set_slot]
    split
    · next e => subst e; rfl
    · rfl
  case runChanged k r _ =>
    refine .inl (.of_eq (fun _ => rfl) rfl rfl rfl rfl (fun d => ?_) fun _ => rfl)
    by_cases e : k = d
    · subst e; simp [State.withRun]
    · have ev : (k : Nat) ≠ d := fun h => e (Fin.ext h)
      simp [State.withRun, ev]
  case restarted | resetHeld => exact absurd rfl ht
  case resumed => rcases resumeStartup_cases s with ⟨-, e⟩ | e <;> rw [e] <;> exact .inl hsame
  case powerFailed =>
    rcases takePowerFail_cases s with ⟨-, e⟩ | ⟨-, -, e⟩ | ⟨-, -, e⟩ <;> rw [e]
    · exact .inl hsame
    · exact .inl hsame
    · rcases emergencyStepped_cases
        (({ s with pfTaken := true, engine := { s.engine with deferredReset := false } } : State).raised .pfail) with
        ⟨-, -, e⟩ | e <;> rw [e]
      · refine .inl (.of_eq (fun _ => rfl) rfl rfl rfl rfl (fun d => ?_) fun _ => rfl)
        simp only [State.emergencyTaken, Fin.getElem_fin, Vector.getElem_ofFn]
        split <;> rfl
      · exact .inl hsame
  case startupWrite j hstartup matched => exact absurd (hphase.device_of_startup hstartup) hs
  case headTaken q hfree hoffers =>
    obtain ⟨rest, hitems⟩ := hoffers.items
    rw [takeHead_eq hitems]
    refine .inl (.of_eq (fun _ => rfl) rfl rfl rfl rfl (fun d => ?_) fun i => ?_)
    · cases (prepareItem s q).channelConfig with
      | none => rfl
      | some x =>
        by_cases e : x.1 = d
        · subst e; simp
        · have ev : (x.1 : Nat) ≠ d := fun h => e (Fin.ext h)
          simp [ev]
    · cases (prepareItem s q).capture with
      | none => rfl
      | some x =>
        simp only [getElem_set_slot]
        split
        · next e => subst e; rfl
        · rfl
  case foldTaken k hfree _ =>
    rw [takeFold_eq]
    refine .inl (.of_eq (fun _ => rfl) rfl rfl rfl rfl (fun d => ?_) fun _ => rfl)
    by_cases e : k = d
    · subst e; simp
    · have ev : (k : Nat) ≠ d := fun h => e (Fin.ext h)
      simp [ev]
  case advanced k _ => unfold commitAdvance; split <;> exact .inl hsame
  case published k f hcompletion _ _ hflight => exact .inr ⟨hcompletion, k, f, hflight, rfl⟩
  case failed k _ =>
    rcases failAttempt_cases k s with ⟨-, e⟩ | ⟨-, ⟨-, e⟩ | ⟨-, -, e⟩ | ⟨-, -, e⟩⟩ <;> rw [e] at ht ⊢
    · exact .inl hsame
    · exact .inl hsame
    · exact .inl hsame
    · exact absurd rfl ht

/-- R45, R159: at the publication the epoch stays or goes up by one, and a pinned slot keeps its capture. -/
theorem publishedState_epoch_slots {s : State} {f : InFlight} (k : Commit) (hepoch : EpochLaw s) (hslot : SlotLaw s)
    (hflight : s.engine.inFlight = some f) :
    ((publishedState f k s).constants.epoch = s.constants.epoch ∨
      (publishedState f k s).constants.epoch = s.constants.epoch + 1) ∧
    ∀ i : Fin 4, s.checkpoints.slots[i].pinned = true →
      (publishedState f k s).checkpoints.slots[i].content = s.checkpoints.slots[i].content := by
  rw [publishedState_eq]
  refine ⟨?_, fun i hp => ?_⟩
  · simp only [constantsPublished]
    cases hbank : f.prepared.bank with
    | none => exact .inl rfl
    | some b => exact .inr (hepoch f hflight (by rw [hbank]; rfl))
  · dsimp only
    cases hcap : f.prepared.capture with
    | none => rw [checkpointsPublished_of_none hcap]
    | some x =>
      simp only [checkpointsPublished_of_some hcap, getElem_set_slot]
      split
      · next e =>
        subst e
        rw [(hslot.2 f hflight x hcap).2] at hp
        cases hp
      · rfl

/-- R33, R45, R107, R159: what a move may do to what is published, outside start-up. -/
theorem Move.published_alone {c : Instr} {s t : State} (hmove : Move c s t) (hphase : PhaseLaw s) (hepoch : EpochLaw s)
    (hslot : SlotLaw s) (hs : s.device ≠ .starting) (ht : t.device ≠ .starting) :
    (c ≠ .commitCompletion → SamePublished s t) ∧
    (t.constants.epoch = s.constants.epoch ∨ t.constants.epoch = s.constants.epoch + 1) ∧
    ∀ i : Fin 4, s.checkpoints.slots[i].pinned = true →
      t.checkpoints.slots[i].content = s.checkpoints.slots[i].content := by
  rcases hmove.samePublished_or_published hphase hs ht with hsame | ⟨hc, k, f, hflight, rfl⟩
  · have ⟨_, _, he, _, _, _, hslots⟩ := hsame
    exact ⟨fun _ => hsame, .inl he, fun i _ => hslots i⟩
  · refine ⟨fun hne => absurd hc hne, ?_⟩
    have hp := publishedState_epoch_slots k hepoch hslot hflight
    rcases completeCommit_cases k f s with ⟨-, e⟩ | ⟨-, -, e⟩ | ⟨-, -, -, e⟩ | ⟨-, -, -, e⟩ <;> rw [e] at ht ⊢
    · exact hp
    · rwa [emergencyStepped_constants, emergencyStepped_checkpoints]
    · exact absurd rfl ht
    · exact hp

theorem SamePublished.congr {s t s' t' : State} (hs : s.bare = s'.bare) (ht : t.bare = t'.bare)
    (h : SamePublished s t) : SamePublished s' t' :=
  show SamePublished s'.bare t'.bare from hs ▸ ht ▸ h

/-- Settles O60, move by move. -/
theorem publicationAlone : Obligations.PublicationAlone := by
  intro s t c rest hpending hphase hepoch hslot hstep
  obtain ⟨hempty, -⟩ | ⟨c', rest', hpending', u, hu, v, hmove, hv⟩ := step_cases hstep
  · cases hpending.symm.trans hempty
  cases hpending.symm.trans hpending'
  have hphase := PhaseLaw.congr hu.symm hphase
  have hepoch := EpochLaw.congr hu.symm hepoch
  have hslot := SlotLaw.congr hu.symm hslot
  refine ⟨EpochLaw.congr hv (hmove.keeps_epochLaw hphase hepoch), SlotLaw.congr hv (hmove.keeps_slotLaw hphase hslot),
    fun hs ht => ?_⟩
  have hus : u.device = s.device := (congrArg State.device hu :)
  have hvt : v.device = t.device := (congrArg State.device hv :)
  have hue : u.constants.epoch = s.constants.epoch := (congrArg (fun x => x.constants.epoch) hu :)
  have hve : v.constants.epoch = t.constants.epoch := (congrArg (fun x => x.constants.epoch) hv :)
  have huk : u.checkpoints = s.checkpoints := (congrArg State.checkpoints hu :)
  have hvk : v.checkpoints = t.checkpoints := (congrArg State.checkpoints hv :)
  obtain ⟨hsame, he, hk⟩ := hmove.published_alone hphase hepoch hslot (hus ▸ hs) (hvt ▸ ht)
  rw [hue, hve] at he
  rw [huk, hvk] at hk
  exact ⟨fun hc => (hsame hc).congr hu hv, he, hk⟩

end Sys2Proof.Machine
end

section
/-! PROOFS. What is stored: a property of records, control blocks and channel configurations that holds of everything in
the array, in the intent, in the commit under way and in the start-up under way (R164 to R168, R175 to R177). The laws
of the totalisers, the journal and the channels are three such properties. -/

namespace Sys2Proof.Machine

/-- A property of what the array stores, which format's values have and which a boot number does not change. -/
structure StoredLaw where
  record : Record → Prop
  control : ControlBlock → Prop
  configs : Vector ChannelConfig 8 → Prop
  unused : record Record.unused
  formatted : control ControlBlock.formatted
  boot : ∀ b n, control b → control { b with boot := n }
  formattedConfigs : configs (Vector.replicate 8 ChannelConfig.formatted)

/-- What a table write carries has the property. -/
def TableWrite.Keeps (L : StoredLaw) : TableWrite → Prop
  | .home _ _ _ r => L.record r
  | .channels _ _ x => L.configs x
  | _ => True

/-- What a start-up write carries has the property. -/
def NvWrite.Keeps (L : StoredLaw) : NvWrite → Prop
  | .table w => w.Keeps L
  | .control _ b => L.control b
  | _ => True

/-- What an intent carries has the property. -/
structure Intent.Keeps (L : StoredLaw) (i : Intent) : Prop where
  tables : ∀ w ∈ i.tables, w.Keeps L
  control : L.control i.control

/-- What the array holds has the property. -/
structure NvArray.Keeps (L : StoredLaw) (nv : NvArray) : Prop where
  home : ∀ (t : Fin 64) (c : CopyId), ∀ r ∈ (nv.home[t].get c).content, L.record r
  channels : ∀ c : CopyId, ∀ x ∈ (nv.channels.get c).content, L.configs x
  control : ∀ c : CopyId, ∀ b ∈ (nv.controlArea c).content, L.control b
  intent : ∀ i, nv.intent = .held i → i.Keeps L

/-- What a start-up has still to write, and what it puts in force, has the property. -/
structure StartupJob.Keeps (L : StoredLaw) (j : StartupJob) : Prop where
  settle : ∀ w ∈ j.settle, w.Keeps L
  control : L.control j.control
  settled : L.control j.settled

/-- What a commit has still to write has the property. -/
structure Commit.Keeps (L : StoredLaw) (k : Commit) : Prop where
  intent : k.intent.Keeps L
  remaining : ∀ w ∈ k.stage.remaining k.intent, w.Keeps L

/-- The array, and everything on its way to it, has the property. -/
structure State.Stores (L : StoredLaw) (s : State) : Prop where
  nv : s.nv.Keeps L
  commit : ∀ k ∈ s.commit, k.Keeps L
  startup : ∀ j, s.startup = some (.writing j) → j.Keeps L

/-- What an item in flight puts in the array has the property, with the configurations it puts it among. -/
structure Prepared.Keeps (L : StoredLaw) (configs : Vector ChannelConfig 8) (p : Prepared) : Prop where
  records : ∀ r ∈ p.records, L.record r.2
  control : L.control p.control
  config : ∀ x ∈ p.channelConfig, L.configs (configs.set x.1 x.2)

variable {L : StoredLaw}

/-! ### One write -/

theorem Pair.get_set {α : Type} (p : Pair α) (c d : CopyId) (x : Area α) :
    (p.set c x).get d = if c = d then x else p.get d := by
  cases c <;> cases d <;> rfl

theorem getElem_set_home (home : Vector (Pair Record) 64) (t u : Fin 64) (x : Pair Record) :
    (home.set t x)[u] = if t = u then x else home[u] := by
  by_cases h : t = u
  · subst h; simp
  · have hv : (t : Nat) ≠ u := fun e => h (Fin.ext e)
    simp [hv, h]

theorem mem_writtenArea {α : Type} {done : Bool} {w : Writer} {x y : α} (h : y ∈ (writtenArea done w x).content) :
    y = x := by
  cases done
  · cases h
  · exact (Option.some.inj h).symm

/-- What one copy of a pair holds after a write of a copy: what was written, or what it held. -/
theorem Pair.mem_set {α : Type} {p : Pair α} {c d : CopyId} {x : Area α} {y : α}
    (h : y ∈ ((p.set c x).get d).content) : y ∈ x.content ∨ y ∈ (p.get d).content := by
  rw [Pair.get_set] at h
  split at h
  exacts [.inl h, .inr h]

theorem mem_set_home {home : Vector (Pair Record) 64} {t u : Fin 64} {c d : CopyId} {x : Area Record} {y : Record}
    (h : y ∈ ((home.set t (home[t].set c x))[u].get d).content) : y ∈ x.content ∨ y ∈ (home[u].get d).content := by
  rw [getElem_set_home] at h
  split at h
  · next e => subst e; exact Pair.mem_set h
  · exact .inr h

theorem NvArray.controlArea_writeControl (nv : NvArray) (done : Bool) (c d : CopyId) (b : ControlBlock) :
    (nv.writeControl done c b).controlArea d =
      if c = d then writtenArea done (.number b.counter) b else nv.controlArea d := by
  cases c <;> cases d <;> rfl

@[simp] theorem NvArray.controlArea_writeTable (nv : NvArray) (done : Bool) (w : TableWrite) (c : CopyId) :
    (nv.writeTable done w).controlArea c = nv.controlArea c := by
  cases c
  exacts [nv.writeTable_controlA done w, nv.writeTable_controlB done w]

namespace NvArray.Keeps
variable {nv : NvArray} (h : nv.Keeps L)
include h

theorem writeTable (done : Bool) {w : TableWrite} (hw : w.Keeps L) : (nv.writeTable done w).Keeps L := by
  obtain ⟨hhome, hchannels, hcontrol, hintent⟩ := h
  refine ⟨fun u d r hr => ?home, fun d x hx => ?channels, fun d b hb => ?control, fun i hi => ?intent⟩
  case control => exact hcontrol d b (by rwa [NvArray.controlArea_writeTable] at hb)
  case intent => exact hintent i (by rwa [NvArray.writeTable_intent] at hi)
  case home =>
    cases w with
    | home t c w r' =>
      rcases mem_set_home hr with hr | hr
      · rw [mem_writtenArea hr]; exact hw
      · exact hhome u d r hr
    | _ => exact hhome u d r hr
  case channels =>
    cases w with
    | channels c w x' =>
      rcases Pair.mem_set hx with hx | hx
      · rw [mem_writtenArea hx]; exact hw
      · exact hchannels d x hx
    | _ => exact hchannels d x hx

theorem writeControl (done : Bool) (c : CopyId) {b : ControlBlock} (hb : L.control b) :
    (nv.writeControl done c b).Keeps L := by
  obtain ⟨hhome, hchannels, hcontrol, hintent⟩ := h
  obtain ⟨eintent, ehome, -, echannels, -, -⟩ := nv.writeControl_frame done c b
  refine ⟨by rwa [ehome], by rwa [echannels], fun d x hx => ?_, by rwa [eintent]⟩
  rw [NvArray.controlArea_writeControl] at hx
  split at hx
  · rw [mem_writtenArea hx]; exact hb
  · exact hcontrol d x hx

theorem withIntent {i : IntentArea} (hi : ∀ x, i = .held x → x.Keeps L) : ({ nv with intent := i } : NvArray).Keeps L where
  home := h.home
  channels := h.channels
  control := fun c => by cases c; exacts [h.control .a, h.control .b]
  intent := hi

theorem writeIntent (done : Bool) {i : Intent} (hi : i.Keeps L) : (nv.writeIntent done i).Keeps L :=
  h.withIntent fun x hx => by cases done <;> cases hx; exact hi

theorem write (done : Bool) {w : NvWrite} (hw : w.Keeps L) : (nv.write done w).Keeps L := by
  cases w with
  | table w => exact h.writeTable done hw
  | control c b => exact h.writeControl done c hw
  | noIntent => exact h.withIntent fun x hx => by cases done <;> cases hx
  | spoilHome t c =>
    refine ⟨fun u d r hr => ?_, h.channels, fun d => by cases d; exacts [h.control .a, h.control .b], h.intent⟩
    rcases mem_set_home hr with hr | hr
    · cases hr
    · exact h.home u d r hr
  | spoilActive c | spoilSlot i =>
    exact ⟨h.home, h.channels, fun d => by cases d; exacts [h.control .a, h.control .b], h.intent⟩
  | spoilChannels c =>
    refine ⟨h.home, fun d x hx => ?_, fun d => by cases d; exacts [h.control .a, h.control .b], h.intent⟩
    rcases Pair.mem_set hx with hx | hx
    · cases hx
    · exact h.channels d x hx

end NvArray.Keeps

/-! ### The commit (R166 to R168) -/

/-- R166: the home records a commit writes. -/
def homeWrites (current : CurrentCopies) (w : Writer) (records : List (Fin 64 × Record)) : List TableWrite :=
  records.flatMap fun r => current.home[r.1].targets.map fun c => .home r.1 c w r.2

/-- R166: the bank copies a SWITCH writes. -/
def bankWrites (current : CurrentCopies) (w : Writer) : Option Bank → List TableWrite
  | some b => current.active.targets.map fun c => .active c w b
  | none => []

/-- R166: the channel configuration copies a CONFIGURE_CHANNEL writes. -/
def configWrites (current : CurrentCopies) (w : Writer) (configs : Vector ChannelConfig 8) :
    Option (Fin 8 × ChannelConfig) → List TableWrite
  | some (i, x) => current.channels.targets.map fun c => .channels c w (configs.set i x)
  | none => []

/-- R166: the slot a CHECKPOINT writes. -/
def slotWrites (w : Writer) : Option (Fin 4 × Capture) → List TableWrite
  | some (i, x) => [.slot i w (some x)]
  | none => []

theorem commitTables_eq (current : CurrentCopies) (p : Prepared) (configs : Vector ChannelConfig 8) :
    commitTables current p configs =
      homeWrites current (.number p.entry.number) p.records ++ [.ring p.entry] ++
      bankWrites current (.number p.entry.number) p.bank ++
      configWrites current (.number p.entry.number) configs p.channelConfig ++
      slotWrites (.number p.entry.number) p.capture := rfl

section
variable {current : CurrentCopies} {writer : Writer} {w : TableWrite}

theorem mem_homeWrites {records : List (Fin 64 × Record)} :
    w ∈ homeWrites current writer records ↔
      ∃ r ∈ records, ∃ c ∈ current.home[r.1].targets, w = .home r.1 c writer r.2 := by
  simp only [homeWrites, List.mem_flatMap, List.mem_map, eq_comm]

theorem mem_bankWrites {bank : Option Bank} :
    w ∈ bankWrites current writer bank ↔ ∃ b, bank = some b ∧ ∃ c ∈ current.active.targets, w = .active c writer b := by
  cases bank <;> simp [bankWrites, eq_comm]

theorem mem_configWrites {configs : Vector ChannelConfig 8} {config : Option (Fin 8 × ChannelConfig)} :
    w ∈ configWrites current writer configs config ↔
      ∃ x, config = some x ∧ ∃ c ∈ current.channels.targets, w = .channels c writer (configs.set x.1 x.2) := by
  cases config <;> simp [configWrites, eq_comm]

theorem mem_slotWrites {capture : Option (Fin 4 × Capture)} :
    w ∈ slotWrites writer capture ↔ ∃ x, capture = some x ∧ w = .slot x.1 writer (some x.2) := by
  cases capture <;> simp [slotWrites]

end

/-- R166: what a commit writes is what was prepared. -/
theorem mem_commitTables {current : CurrentCopies} {p : Prepared} {configs : Vector ChannelConfig 8} {w : TableWrite} :
    w ∈ commitTables current p configs ↔
      (∃ r ∈ p.records, ∃ c ∈ current.home[r.1].targets, w = .home r.1 c (.number p.entry.number) r.2) ∨
      w = .ring p.entry ∨
      (∃ b, p.bank = some b ∧ ∃ c ∈ current.active.targets, w = .active c (.number p.entry.number) b) ∨
      (∃ x, p.channelConfig = some x ∧
        ∃ c ∈ current.channels.targets, w = .channels c (.number p.entry.number) (configs.set x.1 x.2)) ∨
      (∃ x, p.capture = some x ∧ w = .slot x.1 (.number p.entry.number) (some x.2)) := by
  rw [commitTables_eq]
  simp only [List.mem_append, List.mem_singleton, mem_homeWrites, mem_bankWrites, mem_configWrites, mem_slotWrites,
    or_assoc]

theorem Prepared.Keeps.buildIntent {p : Prepared} {configs : Vector ChannelConfig 8} (h : p.Keeps L configs)
    (current : CurrentCopies) : (buildIntent current p configs).Keeps L := by
  refine ⟨fun w hw => ?_, h.control⟩
  rcases mem_commitTables.1 hw with ⟨r, hr, c, -, rfl⟩ | rfl | ⟨b, -, c, -, rfl⟩ | ⟨x, hx, c, -, rfl⟩ |
    ⟨x, -, rfl⟩
  exacts [h.records r hr, trivial, trivial, h.config x hx, trivial]

/-- A first or second attempt has the whole intent to write. -/
theorem Intent.Keeps.attempt {i : Intent} (h : i.Keeps L) (second : Bool) :
    ({ intent := i, second := second, stage := .intent } : Commit).Keeps L := ⟨h, h.tables⟩

theorem NvArray.Keeps.breakCommit {nv : NvArray} (h : nv.Keeps L) (written : Bool) {k : Commit} (hk : k.Keeps L) :
    (nv.breakCommit written k).Keeps L := by
  obtain ⟨hintent, hremaining⟩ := hk
  unfold NvArray.breakCommit
  split
  · exact h.withIntent nofun
  · exact h.writeIntent written hintent
  · exact h
  · next w rest e =>
    rw [e] at hremaining
    exact h.writeTable written (hremaining w List.mem_cons_self)
  · exact h.writeControl written _ hintent.control

/-! ### Start-up (R175 to R177) -/

theorem keeps_formatWrites : ∀ w ∈ formatWrites, w.Keeps L := by
  intro w hw
  simp only [formatWrites, List.mem_append, List.mem_flatMap, List.mem_map, List.mem_cons, List.not_mem_nil, or_false]
    at hw
  rcases hw with ((⟨t, -, rfl | rfl⟩ | rfl | rfl | rfl | rfl) | ⟨i, -, rfl⟩) | rfl | rfl | rfl
  exacts [L.unused, L.unused, trivial, trivial, L.formattedConfigs, L.formattedConfigs, trivial, trivial, L.formatted,
    L.formatted]

theorem keeps_spoilPair {α : Type} {k : Word} {p : Pair α} {spoil : CopyId → NvWrite} (h : ∀ c, (spoil c).Keeps L)
    {w : NvWrite} (hw : w ∈ spoilPair k p spoil) : w.Keeps L := by
  simp only [spoilPair, List.mem_append] at hw
  rcases hw with hw | hw <;> split at hw <;> simp only [List.mem_singleton, List.not_mem_nil] at hw <;> rw [hw]
  exacts [h .a, h .b]

theorem keeps_discardWrites (nv : NvArray) (k : Word) : ∀ w ∈ discardWrites nv k, w.Keeps L := by
  intro w hw
  simp only [discardWrites, List.mem_append, List.mem_flatMap, List.mem_singleton] at hw
  rcases hw with (((⟨t, -, hw⟩ | hw) | hw) | ⟨i, -, hw⟩) | rfl
  · exact keeps_spoilPair (spoil := .spoilHome t) (fun _ => trivial) hw
  · exact keeps_spoilPair (spoil := .spoilActive) (fun _ => trivial) hw
  · exact keeps_spoilPair (spoil := .spoilChannels) (fun _ => trivial) hw
  · split at hw <;> simp only [List.mem_singleton, List.not_mem_nil] at hw
    rw [hw]; trivial
  · trivial

/-- R175: the chosen control block stands in its copy. -/
theorem NvArray.chooseControl_area {nv : NvArray} {b : ControlBlock} {c : CopyId}
    (h : nv.chooseControl = some (b, c)) : (nv.controlArea c).content = some b := by
  unfold NvArray.chooseControl at h
  split at h
  · cases h
  · next ha _ => cases h; exact ha
  · next _ hb => cases h; exact hb
  · next ha hb =>
    split at h <;> cases h
    exacts [ha, hb]

/-- R175 to R177: everything that start-up can set out on. -/
theorem planStartup_cases (nv : NvArray) :
    (nv.chooseControl = none ∧ planStartup nv =
      { settle := formatWrites, retried := false, control := ControlBlock.formatted, copy := .a,
        settled := ControlBlock.formatted, settledCopy := .a, action := .formatted }) ∨
    ∃ b c, nv.chooseControl = some (b, c) ∧
      ((nv.intent.settlement b.counter = .clean ∧ planStartup nv =
        { settle := [], retried := false, control := b, copy := c, settled := b, settledCopy := c,
          action := .clean }) ∨
      (∃ i, nv.intent = .held i ∧ i.number = b.counter ∧ planStartup nv =
        { settle := i.tables.map .table ++ [.control c.other i.control], retried := false, control := b, copy := c,
          settled := i.control, settledCopy := c.other, action := .rolledForward i.number }) ∨
      (nv.intent.settlement b.counter = .discard ∧ planStartup nv =
        { settle := discardWrites nv b.counter, retried := false, control := b, copy := c, settled := b,
          settledCopy := c, action := .intentDiscarded })) := by
  unfold planStartup
  cases hchoose : nv.chooseControl with
  | none => exact .inl ⟨rfl, rfl⟩
  | some x =>
    obtain ⟨b, c⟩ := x
    refine .inr ⟨b, c, rfl, ?_⟩
    cases hsettle : nv.intent.settlement b.counter with
    | clean => exact .inl ⟨rfl, by simp only [hsettle]⟩
    | discard => exact .inr (.inr ⟨rfl, by simp only [hsettle]⟩)
    | rollForward i =>
      refine .inr (.inl ⟨i, ?_⟩)
      have hi : nv.intent = .held i ∧ i.number = b.counter := by
        unfold IntentArea.settlement at hsettle
        split at hsettle
        · cases hsettle
        · cases hsettle
        · next x hx =>
          split at hsettle
          · next e => cases hsettle; exact ⟨hx, e⟩
          · split at hsettle <;> cases hsettle
      exact ⟨hi.1, hi.2, by simp only [hsettle]⟩

theorem NvArray.Keeps.planStartup {nv : NvArray} (h : nv.Keeps L) : (planStartup nv).Keeps L := by
  rcases planStartup_cases nv with ⟨-, e⟩ | ⟨b, c, hchoose, hplan⟩
  · rw [e]; exact ⟨keeps_formatWrites, L.formatted, L.formatted⟩
  · have hb : L.control b := h.control c b (NvArray.chooseControl_area hchoose)
    rcases hplan with ⟨-, e⟩ | ⟨i, hi, -, e⟩ | ⟨-, e⟩ <;> rw [e]
    · exact ⟨fun w hw => (List.not_mem_nil hw).elim, hb, hb⟩
    · obtain ⟨htables, hcontrol⟩ := h.intent i hi
      refine ⟨fun w hw => ?_, hb, hcontrol⟩
      simp only [List.mem_append, List.mem_map, List.mem_singleton] at hw
      rcases hw with ⟨x, hx, rfl⟩ | rfl
      exacts [htables x hx, hcontrol]
    · exact ⟨keeps_discardWrites nv _, hb, hb⟩

theorem StartupJob.Keeps.underWay {j : StartupJob} (h : j.Keeps L) : j.underWay.Keeps L := by
  unfold StartupJob.underWay
  split
  · next w rest e => exact h.settle w (by rw [e]; exact List.mem_cons_self)
  · exact L.boot _ _ h.control

theorem StartupJob.Keeps.advance {j : StartupJob} (h : j.Keeps L) {w : NvWrite} {rest : List NvWrite}
    (hsettle : j.settle = w :: rest) : j.advance.Keeps L := by
  rcases StartupJob.advance_cases hsettle with ⟨-, e⟩ | ⟨-, e⟩ <;> rw [e]
  · exact ⟨fun w hw => (List.not_mem_nil hw).elim, h.settled, h.settled⟩
  · exact ⟨fun x hx => h.settle x (by rw [hsettle]; exact List.mem_cons_of_mem _ hx), h.control, h.settled⟩

theorem keeps_formatted : NvArray.formatted.Keeps L := by
  refine ⟨fun t c r hr => ?_, fun c x hx => ?_, fun c b hb => ?_, nofun⟩
  · have hall : NvArray.formatted.home[t] = ⟨.good .format Record.unused, .good .format Record.unused⟩ := by
      simp [NvArray.formatted]
    rw [hall] at hr
    cases c <;> cases hr <;> exact L.unused
  · cases c <;> cases hx <;> exact L.formattedConfigs
  · cases c <;> cases hb <;> exact L.formatted

theorem NvArray.Keeps.loadedArray {nv : NvArray} (h : nv.Keeps L) (j : StartupJob) (fault : Bool) :
    (j.loadedArray fault nv).Keeps L := by
  unfold StartupJob.loadedArray
  split
  exacts [keeps_formatted, h]

/-! ### Every move -/

theorem State.Stores.of_eq {s t : State} (h : s.Stores L) (hnv : t.nv = s.nv) (hcommit : t.commit = s.commit)
    (hstartup : t.startup = s.startup) : t.Stores L :=
  ⟨by rw [hnv]; exact h.nv, by rw [hcommit]; exact h.commit, by rw [hstartup]; exact h.startup⟩

theorem NvArray.Keeps.stores {s : State} (h : s.nv.Keeps L) (hcommit : s.commit = none) (hstartup : s.startup = none) :
    s.Stores L :=
  ⟨h, fun k hk => by (rw [hcommit] at hk; cases hk), fun j hj => by (rw [hstartup] at hj; cases hj)⟩

/-- With no commit under way the array and the start-up alone matter. -/
theorem NvArray.Keeps.idleStores {s : State} (h : s.nv.Keeps L) (hcommit : s.commit = none)
    (hstartup : ∀ j, s.startup = some (.writing j) → j.Keeps L) : s.Stores L :=
  ⟨h, fun k hk => by (rw [hcommit] at hk; cases hk), hstartup⟩

theorem NvArray.Keeps.beginStartup {s : State} (h : s.nv.Keeps L) : (beginStartup s).Stores L := by
  refine ⟨h, nofun, fun j hj => ?_⟩
  unfold Machine.beginStartup at hj
  dsimp only at hj
  split at hj
  · cases hj
  · cases hj; exact h.planStartup

theorem State.Stores.cutArray {s : State} (h : s.Stores L) (written : Bool) : (s.cutArray written).Keeps L := by
  obtain ⟨hnv, hcommit, hstartup⟩ := h
  have hcut : (match s.commit with
      | some c => s.nv.breakCommit written c
      | none => s.nv).Keeps L := by
    cases hk : s.commit with
    | none => exact hnv
    | some k => exact hnv.breakCommit written (hcommit k hk)
  unfold State.cutArray
  dsimp only
  split
  · next j hj =>
    cases j with
    | waiting => exact hcut
    | writing j => exact hcut.write written (hstartup j hj).underWay
  · exact hcut

/-- The configurations of a state's channels. -/
def State.configs (s : State) : Vector ChannelConfig 8 := Vector.ofFn fun k => s.channels[k].config

/-- A take puts on its way to the array what the item in flight carries. -/
theorem State.Stores.taken {s t : State} (h : s.Stores L) {item : FlightItem} {p : Prepared} (hnv : t.nv = s.nv)
    (hstartup : t.startup = s.startup) (hcommit : t.commit = some (s.firstAttempt p))
    (hflight : t.engine.inFlight = some { item := item, prepared := p }) (hconfigs : t.configs = s.configs)
    (hkeeps : ∀ f ∈ t.engine.inFlight, f.prepared.Keeps L t.configs) : t.Stores L := by
  refine ⟨by rw [hnv]; exact h.nv, fun k hk => ?_, by rw [hstartup]; exact h.startup⟩
  have hp := hkeeps _ hflight
  rw [hconfigs] at hp
  cases hcommit.symm.trans hk
  exact (hp.buildIntent s.current).attempt false

theorem takeHead_configs {s : State} {q : QueueItem} {rest : List QueueItem} (hitems : s.queue.items = q :: rest) :
    (takeHead q s).configs = s.configs := by
  rw [takeHead_eq hitems]
  unfold State.configs
  cases (prepareItem s q).channelConfig with
  | none => rfl
  | some x => exact configs_set_run _ _ _

theorem State.Stores.emergencyStepped {s : State} (h : s.Stores L)
    (hkeeps : ∀ f ∈ s.emergencyStepped.engine.inFlight, f.prepared.Keeps L s.emergencyStepped.configs) :
    s.emergencyStepped.Stores L := by
  rcases emergencyStepped_cases s with ⟨-, -, e⟩ | e <;> rw [e] at hkeeps ⊢
  · exact h.taken rfl rfl rfl rfl (emergencyTaken_configs s) hkeeps
  · exact h.of_eq rfl rfl rfl

theorem State.Stores.published {s : State} (h : s.Stores L) (f : InFlight) {k : Commit} (hcommit : s.commit = some k) :
    (publishedState f k s).Stores L := by
  have hnv := h.nv.writeControl true k.intent.controlCopy (h.commit k hcommit).intent.control
  rw [publishedState_eq]
  exact hnv.idleStores rfl h.startup

theorem NvArray.Keeps.endStartup {nv : NvArray} (h : nv.Keeps L) {s : State} (hcommit : ∀ k ∈ s.commit, k.Keeps L)
    (j : StartupJob) (fault : Bool) : (endStartup j fault { s with nv := nv }).Stores L := by
  obtain ⟨ev, e⟩ := endStartup_eq j fault { s with nv := nv }
  have hnv : (Machine.endStartup j fault { s with nv := nv }).nv = nv := by simp only [e, loadTables]
  have hsame : (Machine.endStartup j fault { s with nv := nv }).commit = s.commit := by simp only [e, loadTables]
  have hstartup : (Machine.endStartup j fault { s with nv := nv }).startup = none := by rw [e]
  refine ⟨?_, ?_, fun x hx => ?_⟩
  · rw [hnv]; exact h
  · rw [hsame]; exact hcommit
  · rw [hstartup] at hx; cases hx

theorem State.Stores.startupWrite {s : State} (h : s.Stores L) {j : StartupJob}
    (hstartup : s.startup = some (.writing j)) (matched : Bool) : (startupWriteDone matched j s).Stores L := by
  have hj := h.startup j hstartup
  rcases startupWriteDone_cases matched j s with ⟨-, -, e⟩ | ⟨-, w, rest, hsettle, e⟩ | ⟨-, -, e⟩ | ⟨-, -, e⟩ <;> rw [e]
  · have hboot : j.bootWrite.Keeps L := L.boot _ _ hj.control
    exact (h.nv.write true hboot).endStartup h.commit j false
  · have hw : w.Keeps L := hj.settle w (by rw [hsettle]; exact List.mem_cons_self)
    refine ⟨h.nv.write true hw, h.commit, fun x hx => ?_⟩
    cases hx
    exact hj.advance hsettle
  · exact (h.nv.write false hj.underWay).endStartup h.commit j true
  · refine ⟨h.nv.write false hj.underWay, h.commit, fun x hx => ?_⟩
    cases hx
    exact ⟨hj.settle, hj.control, hj.settled⟩

theorem State.Stores.advanced {s : State} (h : s.Stores L) {k : Commit} (hcommit : s.commit = some k) :
    (commitAdvance k s).Stores L := by
  have hk := h.commit k hcommit
  have hintent := hk.intent
  have hremaining := hk.remaining
  unfold commitAdvance
  split
  · exact ⟨h.nv, fun x hx => by cases hx; exact ⟨hintent, hintent.tables⟩, h.startup⟩
  · refine ⟨h.nv.writeIntent true hintent, fun x hx => ?_, h.startup⟩
    cases hx
    refine ⟨hintent, fun w hw => ?_⟩
    dsimp only at hw
    split at hw
    · exact (List.not_mem_nil hw).elim
    · exact hintent.tables w hw
  · exact ⟨h.nv, fun x hx => by cases hx; exact ⟨hintent, fun w hw => (List.not_mem_nil hw).elim⟩, h.startup⟩
  · next w rest e =>
    rw [e] at hremaining
    refine ⟨h.nv.writeTable true (hremaining w List.mem_cons_self), fun x hx => ?_, h.startup⟩
    cases hx
    refine ⟨hintent, fun y hy => ?_⟩
    dsimp only at hy
    split at hy
    · exact (List.not_mem_nil hy).elim
    · exact hremaining y (List.mem_cons_of_mem _ hy)
  · exact h

theorem State.Stores.failed {s : State} (h : s.Stores L) {k : Commit} (hcommit : s.commit = some k) :
    (failAttempt k s).Stores L := by
  have hbroken := h.nv.breakCommit false (h.commit k hcommit)
  have hbad : ({ s.nv.breakCommit false k with intent := .bad } : NvArray).Keeps L := hbroken.withIntent nofun
  rcases failAttempt_cases k s with ⟨-, e⟩ | ⟨-, ⟨-, e⟩ | ⟨-, -, e⟩ | ⟨-, -, e⟩⟩ <;> rw [e]
  · exact ⟨hbroken, fun x hx => by cases hx; exact (h.commit k hcommit).intent.attempt true, h.startup⟩
  · exact NvArray.Keeps.idleStores hbad rfl h.startup
  · exact NvArray.Keeps.idleStores hbad rfl h.startup
  · exact NvArray.Keeps.beginStartup (by exact hbad)

/-- R164 to R168, R175 to R177: every move keeps the property of what is stored, if what it puts in flight has it. -/
theorem Move.keeps_stores {c : Instr} {s t : State} (hmove : Move c s t) (h : s.Stores L)
    (hkeeps : ∀ f ∈ t.engine.inFlight, f.prepared.Keeps L t.configs) : t.Stores L := by
  cases hmove
  case idle | operandPair | opened | legAdded | fieldSet | discarded | submitted | acknowledged | pinned | unpinned
    | runChanged => exact h.of_eq rfl rfl rfl
  case cancelled q p =>
    obtain ⟨ev, lock, e⟩ := freeLock_removeItems_eq q (s.queue.items.eraseP p) s
    rw [e]
    exact h.of_eq rfl rfl rfl
  case popped e rest hentries =>
    rcases endHeld_cases { s with journal := { s.journal with head := s.journal.head + 1, entries := rest } } with
      ⟨-, e⟩ | e <;> rw [e] <;> exact h.of_eq rfl rfl rfl
  case restarted => exact h.nv.beginStartup
  case cut written => exact NvArray.Keeps.stores (h.cutArray written) rfl rfl
  case resetHeld written => exact NvArray.Keeps.stores (h.cutArray written) rfl rfl
  case resumed =>
    rcases resumeStartup_cases s with ⟨-, e⟩ | e <;> rw [e]
    · exact ⟨h.nv, h.commit, fun j hj => by cases hj; exact h.nv.planStartup⟩
    · exact h
  case powerFailed =>
    rcases takePowerFail_cases s with ⟨-, e⟩ | ⟨-, -, e⟩ | ⟨-, -, e⟩ <;> rw [e] at hkeeps ⊢
    · exact h.of_eq rfl rfl rfl
    · exact h.of_eq rfl rfl rfl
    · refine State.Stores.emergencyStepped ?_ hkeeps
      exact h.of_eq rfl rfl rfl
  case startupWrite j hstartup matched => exact h.startupWrite hstartup matched
  case headTaken q hfree hoffers =>
    obtain ⟨rest, hitems⟩ := hoffers.items
    have hconfigs := takeHead_configs hitems
    rw [takeHead_eq hitems] at hkeeps hconfigs ⊢
    exact h.taken rfl rfl rfl rfl hconfigs hkeeps
  case foldTaken k hfree _ =>
    rw [takeFold_eq] at hkeeps ⊢
    exact h.taken rfl rfl rfl rfl (configs_set_run _ _ _) hkeeps
  case advanced k hcommit => exact h.advanced hcommit
  case published k f _ hcommit _ _ =>
    have hp := h.published f hcommit
    rcases completeCommit_cases k f s with ⟨-, e⟩ | ⟨-, -, e⟩ | ⟨-, -, -, e⟩ | ⟨-, -, -, e⟩ <;> rw [e] at hkeeps ⊢
    · exact hp.of_eq rfl rfl rfl
    · exact hp.emergencyStepped hkeeps
    · exact hp.nv.beginStartup
    · exact hp
  case failed k hcommit => exact h.failed hcommit

end Sys2Proof.Machine
end

section
/-! PROOFS. The law of the journal (R141, R146, R149): the entries held, their numbers, and the control blocks on their
way to the array. -/

namespace Sys2Proof.Machine

/-- R149: the control blocks stored span at most 32 entries. -/
def spansStored : StoredLaw where
  record _ := True
  control := ControlBlock.Spans
  configs _ := True
  unused := trivial
  formatted := by simp [ControlBlock.Spans, ControlBlock.formatted, Config.journalCapacity]
  boot _ _ h := h
  formattedConfigs := trivial

theorem TableWrite.keeps_spans (w : TableWrite) : w.Keeps spansStored := by cases w <;> trivial

theorem NvWrite.keeps_spans (w : NvWrite) : w.Keeps spansStored ↔ w.ControlSpans := by
  cases w with
  | table w => exact iff_of_true w.keeps_spans trivial
  | _ => exact Iff.rfl

theorem NvArray.keeps_spans (nv : NvArray) : nv.Keeps spansStored ↔ nv.ControlsSpan := by
  constructor
  · rintro ⟨-, -, hcontrol, hintent⟩
    exact ⟨hcontrol .a, hcontrol .b, fun i hi => (hintent i hi).control⟩
  · rintro ⟨ha, hb, hintent⟩
    exact ⟨fun _ _ _ _ => trivial, fun _ _ _ => trivial, fun c => by cases c; exacts [ha, hb],
      fun i hi => ⟨fun w _ => w.keeps_spans, hintent i hi⟩⟩

theorem State.stores_spans (s : State) : s.Stores spansStored ↔
    s.nv.ControlsSpan ∧ (∀ c ∈ s.commit, c.intent.control.Spans) ∧
    (∀ j, s.startup = some (.writing j) → j.control.Spans ∧ j.settled.Spans ∧ ∀ w ∈ j.settle, w.ControlSpans) := by
  constructor
  · rintro ⟨hnv, hcommit, hstartup⟩
    refine ⟨s.nv.keeps_spans.1 hnv, fun k hk => (hcommit k hk).intent.control, fun j hj => ?_⟩
    obtain ⟨hsettle, hcontrol, hsettled⟩ := hstartup j hj
    exact ⟨hcontrol, hsettled, fun w hw => w.keeps_spans.1 (hsettle w hw)⟩
  · rintro ⟨hnv, hcommit, hstartup⟩
    refine ⟨s.nv.keeps_spans.2 hnv, fun k hk => ?_, fun j hj => ?_⟩
    · exact ⟨⟨fun w _ => w.keeps_spans, hcommit k hk⟩, fun w _ => w.keeps_spans⟩
    · obtain ⟨hcontrol, hsettled, hsettle⟩ := hstartup j hj
      exact ⟨fun w hw => w.keeps_spans.2 (hsettle w hw), hcontrol, hsettled⟩

/-! ### The entries held (R141, R149) -/

/-- R141, R149: at most 32 entries, numbered in succession from the head up to the counter. -/
structure Journal.Lawful (j : Journal) : Prop where
  room : j.entries.length ≤ Config.journalCapacity
  counter : j.counter = j.head + BitVec.ofNat 32 j.entries.length
  numbered : ∀ i, ∀ h : i < j.entries.length, j.entries[i].number = j.head + BitVec.ofNat 32 i

/-- R146, R147: the item in flight carries the counter's number, has a position left, and its control block spans at
most 32 entries. -/
structure InFlight.Numbered (f : InFlight) (j : Journal) : Prop where
  number : f.prepared.entry.number = j.counter
  room : j.entries.length ≤ f.item.room
  spans : f.prepared.control.Spans

theorem FlightItem.room_le (item : FlightItem) : item.room ≤ 31 := by
  cases item <;> simp [FlightItem.room]

theorem journalLaw_iff (s : State) : JournalLaw s ↔
    s.journal.Lawful ∧ (s.engine.state = .idle → s.journal.entries.length < Config.heldAt) ∧
    (∀ f ∈ s.engine.inFlight, f.Numbered s.journal) ∧ s.Stores spansStored := by
  rw [State.stores_spans]
  constructor
  · rintro ⟨hroom, hcounter, hnumbered, hidle, hflight, hstores⟩
    exact ⟨⟨hroom, hcounter, hnumbered⟩, hidle, fun f hf => ⟨(hflight f hf).1, (hflight f hf).2.1, (hflight f hf).2.2⟩,
      hstores⟩
  · rintro ⟨⟨hroom, hcounter, hnumbered⟩, hidle, hflight, hstores⟩
    exact ⟨hroom, hcounter, hnumbered, hidle,
      fun f hf => ⟨(hflight f hf).number, (hflight f hf).room, (hflight f hf).spans⟩, hstores⟩

theorem Word.ofNat_succ (n : Nat) : BitVec.ofNat 32 (n + 1) = 1 + BitVec.ofNat 32 n := by
  rw [Nat.add_comm, BitVec.ofNat_add]
  rfl

/-- R148: the oldest entry removed. -/
theorem Journal.Lawful.pop {j : Journal} (h : j.Lawful) {e : JournalEntry} {rest : List JournalEntry}
    (hentries : j.entries = e :: rest) : ({ j with head := j.head + 1, entries := rest } : Journal).Lawful := by
  obtain ⟨hroom, hcounter, hnumbered⟩ := h
  refine ⟨?_, ?_, fun i hi => ?_⟩
  · rw [hentries, List.length_cons] at hroom
    exact (Nat.le_succ _).trans hroom
  · rw [hcounter, hentries, List.length_cons, Word.ofNat_succ, ← BitVec.add_assoc]
  · have := hnumbered (i + 1) (by rw [hentries]; exact Nat.succ_lt_succ hi)
    simp only [hentries, List.getElem_cons_succ] at this
    rw [this, Word.ofNat_succ, ← BitVec.add_assoc]

/-- R145: an entry with the counter's number appended. -/
theorem Journal.Lawful.append {j : Journal} (h : j.Lawful) {e : JournalEntry} (hnumber : e.number = j.counter)
    (hroom : j.entries.length < Config.journalCapacity) :
    ({ j with counter := j.counter + 1, entries := j.entries ++ [e] } : Journal).Lawful := by
  obtain ⟨-, hcounter, hnumbered⟩ := h
  refine ⟨?_, ?_, fun i hi => ?_⟩
  · simpa using hroom
  · simp only [List.length_append, List.length_singleton]
    rw [hcounter, BitVec.ofNat_add, BitVec.add_assoc]
    rfl
  · simp only [List.length_append, List.length_singleton] at hi
    rcases Nat.lt_succ_iff_lt_or_eq.1 hi with hlt | rfl
    · simp only [List.getElem_append_left hlt]
      exact hnumbered i hlt
    · simpa [hnumber] using hcounter

/-- R104: the control block of an evaluation spans one entry more than the journal holds. -/
theorem Prepared.Sound.spans {p : Prepared} {s : State} (h : p.Sound s) (hj : s.journal.Lawful)
    (hroom : s.journal.entries.length < Config.journalCapacity) : p.control.Spans := by
  have hdiff : p.control.counter - p.control.head = BitVec.ofNat 32 (s.journal.entries.length + 1) := by
    rw [h.counter, h.head, hj.counter, Word.ofNat_succ]
    generalize BitVec.ofNat 32 s.journal.entries.length = n
    bv_omega
  rw [ControlBlock.Spans, hdiff, BitVec.toNat_ofNat]
  exact (Nat.mod_le _ _).trans hroom

/-- R150, R151: what a ring position gives has the number asked for. -/
theorem readRing_number (nv : NvArray) (n : Word) : (readRing nv n).number = n := by
  unfold readRing
  split
  · split
    · next h => exact h
    · rfl
  · rfl

/-- R149, R150: the entries restored under a control block that spans at most 32. -/
theorem Journal.lawful_restored (nv : NvArray) {b : ControlBlock} (h : b.Spans) :
    ({ counter := b.counter, head := b.head, entries := restoreEntries nv b } : Journal).Lawful := by
  have hlen : (restoreEntries nv b).length = (b.counter - b.head).toNat := by
    rw [restoreEntries, List.length_map, List.length_range]
    exact Nat.min_eq_left h
  refine ⟨?_, ?_, fun i hi => ?_⟩
  · rw [hlen]; exact h
  · dsimp only
    rw [hlen, BitVec.ofNat_toNat, BitVec.setWidth_eq]
    bv_omega
  · simp only [restoreEntries, List.getElem_map, List.getElem_range, readRing_number]

theorem Journal.lawful_empty : ({ counter := 0, head := 0, entries := [] } : Journal).Lawful :=
  ⟨Nat.zero_le _, rfl, fun _ hi => absurd hi (Nat.not_lt_zero _)⟩

/-! ### Every move keeps it -/

/-- The law without what is stored, which every move keeps by one argument. -/
structure State.JournalKept (s : State) : Prop where
  journal : s.journal.Lawful
  idle : s.engine.state = .idle → s.journal.entries.length < Config.heldAt
  flight : ∀ f ∈ s.engine.inFlight, f.Numbered s.journal

namespace State.JournalKept
variable {s t : State}

theorem of_eq (h : s.JournalKept) (hjournal : t.journal = s.journal) (hengine : t.engine = s.engine) :
    t.JournalKept := ⟨hjournal ▸ h.journal, by rw [hjournal, hengine]; exact h.idle,
    by rw [hjournal, hengine]; exact h.flight⟩

/-- An engine state other than IDLE asks nothing of the journal. -/
theorem of_not_idle (h : s.JournalKept) (hjournal : t.journal = s.journal)
    (hflight : t.engine.inFlight = s.engine.inFlight) (hstate : t.engine.state ≠ .idle) : t.JournalKept :=
  ⟨hjournal ▸ h.journal, fun hi => absurd hi hstate, by rw [hjournal, hflight]; exact h.flight⟩

theorem no_flight (hjournal : s.journal.Lawful) (hidle : s.engine.state = .idle → s.journal.entries.length < Config.heldAt)
    (hflight : s.engine.inFlight = none) : s.JournalKept :=
  ⟨hjournal, hidle, fun f hf => by rw [hflight] at hf; cases hf⟩

/-- A take puts a sound evaluation in flight. -/
theorem taken (h : s.JournalKept) {item : FlightItem} {p : Prepared} (hp : p.Sound s) (hjournal : t.journal = s.journal)
    (hstate : t.engine.state = .persisting) (hflight : t.engine.inFlight = some { item := item, prepared := p })
    (hroom : s.journal.entries.length ≤ item.room) : t.JournalKept := by
  have hlt : s.journal.entries.length < Config.journalCapacity := by
    have := item.room_le
    rw [Config.journalCapacity]
    omega
  refine ⟨hjournal ▸ h.journal, fun hi => (by rw [hstate] at hi; cases hi), fun f hf => ?_⟩
  rw [hflight] at hf
  cases hf
  exact ⟨hjournal ▸ hp.number, hjournal ▸ hroom, hp.spans h.journal hlt⟩

theorem emergencyStepped (h : s.JournalKept) : s.emergencyStepped.JournalKept := by
  rcases emergencyStepped_cases s with ⟨-, hroom, e⟩ | e <;> rw [e]
  · exact h.taken (prepareEmergency_sound s) rfl rfl rfl hroom
  · exact h.of_not_idle rfl rfl (by simp [enterPowerdown])

theorem reset (s : State) : s.ramCleared.JournalKept :=
  no_flight Journal.lawful_empty (fun _ => Nat.succ_pos _) rfl

theorem begun (s : State) : (beginStartup s).JournalKept := (reset s).of_eq rfl rfl

/-- R87, R149, R150: the journal restored, and IDLE at the end of start-up only below 31 entries. -/
theorem ended (j : StartupJob) (fault : Bool) (hflight : s.engine.inFlight = none) (hspans : j.control.Spans) :
    (endStartup j fault s).JournalKept := by
  obtain ⟨ev, e⟩ := endStartup_eq j fault s
  rw [e]
  refine no_flight (Journal.lawful_restored _ hspans) (fun hi => ?_) hflight
  dsimp only [engineAfterStartup, loadTables] at hi ⊢
  split at hi
  · cases hi
  · split at hi
    · cases hi
    · split at hi
      · cases hi
      · next hlt => exact not_le.1 hlt

/-- R108, R145: the publication appends the entry and is IDLE only when fewer than 31 then stand. -/
theorem published (h : s.JournalKept) {f : InFlight} (hflight : s.engine.inFlight = some f) (k : Commit) :
    (publishedState f k s).JournalKept := by
  obtain ⟨hnumber, hroom, -⟩ := h.flight f hflight
  have hlt : s.journal.entries.length < Config.journalCapacity := by
    have := f.item.room_le
    rw [Config.journalCapacity]
    omega
  have hj := h.journal.append hnumber hlt
  rw [publishedState_eq]
  refine no_flight hj (fun hi => ?_) rfl
  dsimp only at hi ⊢
  split at hi
  · cases hi
  · next hn =>
    rw [List.length_append, List.length_singleton, Config.heldAt]
    omega

end State.JournalKept

theorem Move.keeps_journalKept {c : Instr} {s t : State} (hmove : Move c s t) (hphase : PhaseLaw s)
    (h : s.JournalKept) (hspans : ∀ j, s.startup = some (.writing j) → j.control.Spans) : t.JournalKept := by
  cases hmove
  case idle | operandPair | opened | legAdded | fieldSet | discarded | submitted | acknowledged | pinned | unpinned
    | runChanged | cut => exact h.of_eq rfl rfl
  case cancelled q p =>
    obtain ⟨ev, lock, e⟩ := freeLock_removeItems_eq q (s.queue.items.eraseP p) s
    rw [e]
    exact h.of_eq rfl rfl
  case popped e rest hentries =>
    have hj := h.journal.pop hentries
    have hlen : s.journal.entries.length = rest.length + 1 := by rw [hentries]; rfl
    have hpopped : ∀ f ∈ s.engine.inFlight,
        f.Numbered { s.journal with head := s.journal.head + 1, entries := rest } := fun f hf => by
      obtain ⟨hnumber, hroom, hctl⟩ := h.flight f hf
      exact ⟨hnumber, by dsimp only; omega, hctl⟩
    rcases endHeld_cases { s with journal := { s.journal with head := s.journal.head + 1, entries := rest } } with
      ⟨hheld, e⟩ | e <;> rw [e]
    · exact ⟨hj, fun _ => hheld, hpopped⟩
    · refine ⟨hj, fun hi => ?_, hpopped⟩
      have := h.idle hi
      dsimp only
      omega
  case restarted => exact .begun s
  case resetHeld => exact .reset _
  case resumed => rcases resumeStartup_cases s with ⟨-, e⟩ | e <;> rw [e] <;> exact h.of_eq rfl rfl
  case powerFailed =>
    rcases takePowerFail_cases s with ⟨-, e⟩ | ⟨-, -, e⟩ | ⟨-, -, e⟩ <;> rw [e]
    · exact h.of_not_idle rfl rfl (by simp [enterPowerdown])
    · exact ⟨h.journal, h.idle, h.flight⟩
    · exact State.JournalKept.emergencyStepped ⟨h.journal, h.idle, h.flight⟩
  case startupWrite j hstartup matched =>
    have hnone := hphase.flight_of_startup hstartup
    rcases startupWriteDone_cases matched j s with ⟨-, -, e⟩ | ⟨-, w, rest, -, e⟩ | ⟨-, -, e⟩ | ⟨-, -, e⟩ <;> rw [e]
    exacts [.ended j false hnone (hspans j hstartup), h.of_eq rfl rfl, .ended j true hnone (hspans j hstartup),
      h.of_eq rfl rfl]
  case headTaken q hfree hoffers =>
    obtain ⟨rest, hitems⟩ := hoffers.items
    obtain ⟨-, -, hidle, -, -, -⟩ := hfree
    rw [takeHead_eq hitems]
    exact h.taken (prepareItem_sound s q) rfl rfl rfl (Nat.le_of_lt_succ (h.idle hidle))
  case foldTaken k hfree _ =>
    obtain ⟨-, -, hidle, -, -, -⟩ := hfree
    rw [takeFold_eq]
    exact h.taken (prepareFold_sound s k) rfl rfl rfl (Nat.le_of_lt_succ (h.idle hidle))
  case advanced k _ => unfold commitAdvance; split <;> exact h.of_eq rfl rfl
  case published k f _ _ _ hflight =>
    have hp := h.published hflight k
    rcases completeCommit_cases k f s with ⟨-, e⟩ | ⟨-, -, e⟩ | ⟨-, -, -, e⟩ | ⟨-, -, -, e⟩ <;> rw [e]
    exacts [hp.of_not_idle rfl rfl (by simp [enterPowerdown]), hp.emergencyStepped, .begun _, hp]
  case failed k _ =>
    rcases failAttempt_cases k s with ⟨-, e⟩ | ⟨-, ⟨-, e⟩ | ⟨-, -, e⟩ | ⟨-, -, e⟩⟩ <;> rw [e]
    · exact h.of_eq rfl rfl
    · exact h.of_not_idle rfl rfl (by simp [enterPowerdown])
    · exact h.of_not_idle rfl rfl (by simp)
    · exact .begun _

theorem Move.keeps_journalLaw {c : Instr} {s t : State} (hmove : Move c s t) (hphase : PhaseLaw s) (h : JournalLaw s) :
    JournalLaw t := by
  rw [journalLaw_iff] at h ⊢
  obtain ⟨hjournal, hidle, hflight, hstores⟩ := h
  have hkept : t.JournalKept :=
    hmove.keeps_journalKept hphase ⟨hjournal, hidle, hflight⟩ fun j hj => (hstores.startup j hj).control
  refine ⟨hkept.journal, hkept.idle, hkept.flight, hmove.keeps_stores hstores fun f hf => ?_⟩
  exact ⟨fun _ _ => trivial, (hkept.flight f hf).spans, fun _ _ => trivial⟩

/-- Settles O56, move by move: the entries and their numbers by `JournalKept`, the control blocks by what is stored. -/
theorem journalLawKept : Obligations.JournalLawKept := fun _ _ hphase hs hstep =>
  step_keeps JournalLaw.congr PhaseLaw.congr (fun hm hp => hm.keeps_journalLaw hp) hphase hs hstep

end Sys2Proof.Machine
end

section
/-! PROOFS. The law of the pulse channels (R116, R117): each channel's runtime record and configuration, the folds in
flight, and the configurations on their way to the array. -/

namespace Sys2Proof.Machine

/-- R116: the channel configurations stored are lawful. -/
def configsStored : StoredLaw where
  record _ := True
  control _ := True
  configs x := ∀ c : Fin 8, x[c].Lawful
  unused := trivial
  formatted := trivial
  boot _ _ _ := trivial
  formattedConfigs c := by simp [ChannelConfig.Lawful, ChannelConfig.formatted]

theorem TableWrite.keeps_configs (w : TableWrite) : w.Keeps configsStored ↔ w.ConfigsLawful := by cases w <;> exact Iff.rfl

theorem NvWrite.keeps_configs (w : NvWrite) : w.Keeps configsStored ↔ w.ConfigsLawful := by
  cases w with
  | table w => exact w.keeps_configs
  | _ => exact Iff.rfl

theorem Intent.keeps_configs (i : Intent) : i.Keeps configsStored ↔ ∀ w ∈ i.tables, w.ConfigsLawful :=
  ⟨fun h w hw => w.keeps_configs.1 (h.tables w hw), fun h => ⟨fun w hw => w.keeps_configs.2 (h w hw), trivial⟩⟩

theorem State.stores_configs (s : State) : s.Stores configsStored ↔
    s.nv.ConfigsLawful ∧
    (∀ c ∈ s.commit, (∀ w ∈ c.intent.tables, w.ConfigsLawful) ∧
      (∀ w ∈ c.stage.remaining c.intent, w.ConfigsLawful)) ∧
    (∀ j, s.startup = some (.writing j) → ∀ w ∈ j.settle, w.ConfigsLawful) := by
  constructor
  · rintro ⟨⟨-, hchannels, -, hintent⟩, hcommit, hstartup⟩
    refine ⟨⟨hchannels .a, hchannels .b, fun i hi => i.keeps_configs.1 (hintent i hi)⟩, fun k hk => ?_, fun j hj w hw => ?_⟩
    · exact ⟨k.intent.keeps_configs.1 (hcommit k hk).intent, fun w hw => w.keeps_configs.1 ((hcommit k hk).remaining w hw)⟩
    · exact w.keeps_configs.1 ((hstartup j hj).settle w hw)
  · rintro ⟨⟨ha, hb, hintent⟩, hcommit, hstartup⟩
    refine ⟨⟨fun _ _ _ _ => trivial, fun c => by cases c; exacts [ha, hb], fun _ _ _ => trivial,
      fun i hi => i.keeps_configs.2 (hintent i hi)⟩, fun k hk => ?_, fun j hj => ?_⟩
    · exact ⟨k.intent.keeps_configs.2 (hcommit k hk).1, fun w hw => w.keeps_configs.2 ((hcommit k hk).2 w hw)⟩
    · exact ⟨fun w hw => w.keeps_configs.2 (hstartup j hj w hw), trivial, trivial⟩

/-! ### One channel (R117, R131, R132, R136, R138, R139) -/

/-- R116, R117, R138: a channel is lawful, and FAULTED with a fold in flight only after a PFAIL assertion. -/
structure Channel.Kept (pf : Bool) (ch : Channel) : Prop where
  run : ch.run.Lawful
  config : ch.config.Lawful
  faulted : ch.run.state = .faulted → ch.run.inFlight.isSome = true → pf = true

theorem ChannelRun.giveBack_unfolded_le (r : ChannelRun) (n : Nat) (carried : Bool) :
    (r.giveBack n carried).unfolded ≤ Config.countCeiling := by
  unfold ChannelRun.giveBack
  split
  · exact le_refl _
  · next hn => exact not_lt.1 hn

namespace Channel.Kept
variable {pf : Bool} {ch : Channel} (h : ch.Kept pf)
include h

/-- R129, R139: a channel with a count hands it over; while FAULTED, after a PFAIL assertion alone. -/
theorem handedOver (hcount : 0 < ch.run.unfolded) (hpf : ch.run.state = .faulted → pf = true) :
    Channel.Kept pf { config := ch.config, run := ch.run.handedOver } where
  run := by
    obtain ⟨hle, hstray, hopen, hshut, -, -, hnone⟩ := h.run
    refine ⟨Nat.zero_le _, hstray, hopen, hshut, nofun, fun n hn => ?_, fun hs => ?_⟩
    · cases hn; exact ⟨hcount, hle⟩
    · exact absurd (hnone hs).1 (by omega)
  config := h.config
  faulted hs _ := hpf hs

/-- R131: the end of an APPLIED fold. -/
theorem endApplied (pf' : Bool) : (ch.endApplied pf').Kept pf := by
  obtain ⟨hle, hstray, hopen, hshut, hrequest, -, hnone⟩ := h.run
  have hrun : ({ ch.run with inFlight := none } : ChannelRun).Lawful :=
    ⟨hle, hstray, hopen, hshut, fun hr => ⟨(hrequest hr).1, rfl, (hrequest hr).2.2⟩, nofun,
      fun hs => ⟨(hnone hs).1, rfl⟩⟩
  unfold Channel.endApplied
  dsimp only
  split
  · next hdrained =>
    obtain ⟨-, hzero⟩ := hdrained
    have hno : ch.run.request ≠ true := fun hr => absurd (hrequest hr).1 (by omega)
    refine ⟨⟨hle, hstray, nofun, fun _ => rfl, fun hr => absurd hr hno, nofun, fun _ => ⟨hzero, rfl⟩⟩, h.config, nofun⟩
  · refine ⟨Channel.raiseRequest_lawful (ch := { ch with run := { ch.run with inFlight := none } }) hrun h.config pf', ?_, ?_⟩
    · rw [Channel.raiseRequest_config]; exact h.config
    · rw [Channel.raiseRequest_inFlight]; nofun

/-- R132: the end of a REJECTED fold. -/
theorem endRejected (d : FoldRecord) : (ch.endRejected d).Kept pf where
  run := by
    have hstray : (ch.run.giveBack d.count d.overrun).stray = ch.run.stray := by
      unfold ChannelRun.giveBack; split <;> rfl
    exact ⟨ch.run.giveBack_unfolded_le _ _, hstray ▸ h.run.2.1, nofun, nofun, nofun, nofun, nofun⟩
  config := h.config
  faulted := nofun

/-- R139: the end of a covered channel's part; it is neither IDLE nor DISABLED. -/
theorem endEmergency (f : FlightFold) (hflight : ch.run.inFlight ≠ none) : (ch.endEmergency f).Kept pf where
  config := h.config
  faulted := nofun
  run := by
    obtain ⟨hle, hstray, hopen, hshut, hrequest, -, hnone⟩ := h.run
    have hno : ch.run.request ≠ true := fun hr => hflight (hrequest hr).2.1
    have hlive : ¬(ch.run.state = .idle ∨ ch.run.state = .disabled) := fun hs => hflight (hnone hs).2
    unfold Channel.endEmergency
    cases f.placed
    · have hgive := ch.run.giveBack_unfolded_le f.data.count f.data.overrun
      have hsame : ∃ u o, ch.run.giveBack f.data.count f.data.overrun = { ch.run with unfolded := u, overrun := o } := by
        unfold ChannelRun.giveBack; split
        exacts [⟨_, _, rfl⟩, ⟨_, _, rfl⟩]
      obtain ⟨u, o, e⟩ := hsame
      rw [e] at hgive
      simp only [Bool.false_eq_true, if_false, e]
      exact ⟨hgive, hstray, hopen, hshut, fun hr => absurd hr hno, nofun, fun hs => absurd hs hlive⟩
    · exact ⟨hle, hstray, hopen, hshut, fun hr => absurd hr hno, nofun, fun hs => absurd hs hlive⟩

/-- R136: the passage from the old to the new enabled value. -/
theorem reconfigured {n : ChannelConfig} (hn : n.Lawful) (enabled : Bool) :
    Channel.Kept pf { config := n, run := ch.run.reconfigured enabled } ∧
      (ch.run.reconfigured enabled).inFlight = ch.run.inFlight := by
  have hrun := h.run
  obtain ⟨hle, hstray, hopen, hshut, hrequest, hflight, hnone⟩ := hrun
  unfold ChannelRun.reconfigured
  split
  · next hs =>
    have hno := (hnone (.inr hs)).2
    exact ⟨⟨by simp [ChannelRun.Lawful, ChannelRun.fresh], hn, nofun⟩, hno.symm⟩
  · next hs =>
    have hno := (hnone (.inl hs)).2
    have hquiet : ch.run.request ≠ true := fun hr => by
      rcases (hrequest hr).2.2 with e | e <;> rw [hs] at e <;> cases e
    exact ⟨⟨⟨Nat.zero_le _, Nat.zero_le _, nofun, fun _ => rfl, fun hr => absurd hr hquiet, hflight, fun _ => ⟨rfl, hno⟩⟩,
      hn, nofun⟩, rfl⟩
  · exact ⟨⟨⟨hle, hstray, hopen, hshut, hrequest, hflight, hnone⟩, hn, h.faulted⟩, rfl⟩

end Channel.Kept

theorem Channel.kept_fresh (pf : Bool) {n : ChannelConfig} (hn : n.Lawful) (enabled : Bool) :
    Channel.Kept pf { config := n, run := ChannelRun.fresh enabled } := by
  refine ⟨?_, hn, ?_⟩
  · cases enabled <;> simp [ChannelRun.Lawful, ChannelRun.fresh]
  · cases enabled <;> nofun

/-! ### The eight channels -/

theorem getElem_set_channel (channels : Vector Channel 8) (k c : Fin 8) (ch : Channel) :
    (channels.set k ch)[c] = if k = c then ch else channels[c] := by
  by_cases h : k = c
  · subst h; simp
  · have hv : (k : Nat) ≠ c := fun e => h (Fin.ext e)
    simp [hv, h]

/-- Every channel is kept. -/
def AllKept (pf : Bool) (channels : Vector Channel 8) : Prop := ∀ c : Fin 8, channels[c].Kept pf

theorem AllKept.set {pf : Bool} {channels : Vector Channel 8} (h : AllKept pf channels) {k : Fin 8} {ch : Channel}
    (hch : ch.Kept pf) : AllKept pf (channels.set k ch) := by
  intro c
  rw [getElem_set_channel]
  split
  exacts [hch, h c]

/-- R131, R132: the folds of a FOLD published one by one. -/
theorem AllKept.foldsPublished {pf pf' : Bool} {channels : Vector Channel 8} (h : AllKept pf channels)
    (folds : List FlightFold) : AllKept pf (folds.foldl (foldPublished pf') channels) := by
  induction folds generalizing channels with
  | nil => exact h
  | cons x rest ih =>
    refine ih (h.set ?_)
    split
    exacts [(h x.data.channel).endApplied pf', (h x.data.channel).endRejected x.data]

/-- R139: the covered channels' parts published one by one, each channel holding its fold in flight. -/
theorem AllKept.coveredPublished {pf : Bool} {channels : Vector Channel 8} (h : AllKept pf channels)
    {folds : List FlightFold} (hnodup : (folds.map fun x => x.data.channel).Nodup)
    (hflight : ∀ x ∈ folds, channels[x.data.channel].run.inFlight ≠ none) :
    AllKept pf (folds.foldl coveredPublished channels) := by
  induction folds generalizing channels with
  | nil => exact h
  | cons x rest ih =>
    rw [List.map_cons, List.nodup_cons] at hnodup
    obtain ⟨hx, hrest⟩ := hnodup
    have hother : ∀ y ∈ rest, x.data.channel ≠ y.data.channel := fun y hy e =>
      hx (List.mem_map.2 ⟨y, hy, e.symm⟩)
    refine ih (h.set ((h x.data.channel).endEmergency x (hflight x List.mem_cons_self))) hrest fun y hy => ?_
    rw [Machine.coveredPublished, getElem_set_channel, if_neg (hother y hy)]
    exact hflight y (List.mem_cons_of_mem _ hy)

/-- R117, R129, R137: the folds in flight are those their channels hold, and a configuration in flight is lawful. -/
structure Prepared.Held (p : Prepared) (channels : Vector Channel 8) : Prop where
  nodup : (p.folds.map fun x => x.data.channel).Nodup
  folds : ∀ x ∈ p.folds, channels[x.data.channel].run.inFlight = some x.data.count
  config : ∀ x ∈ p.channelConfig, x.2.Lawful

/-- R136: the configuration published leaves every fold in flight. -/
theorem AllKept.configured {pf : Bool} {channels : Vector Channel 8} (h : AllKept pf channels)
    {config : Option (Fin 8 × ChannelConfig)} (hconfig : ∀ x ∈ config, x.2.Lawful) :
    AllKept pf (channelsConfigured channels config) ∧
      ∀ c : Fin 8, (channelsConfigured channels config)[c].run.inFlight = channels[c].run.inFlight := by
  cases config with
  | none => exact ⟨h, fun _ => rfl⟩
  | some x =>
    obtain ⟨hkept, hsame⟩ := (h x.1).reconfigured (hconfig x rfl) x.2.enabled
    refine ⟨h.set hkept, fun c => ?_⟩
    simp only [channelsConfigured, getElem_set_channel]
    split
    · next e => subst e; exact hsame
    · rfl

theorem AllKept.published {pf pf' : Bool} {channels : Vector Channel 8} (h : AllKept pf channels) {p : Prepared}
    (hp : p.Held channels) (item : FlightItem) :
    AllKept pf (channelsPublished pf' (channelsConfigured channels p.channelConfig) p.folds item) := by
  obtain ⟨hkept, hsame⟩ := h.configured hp.config
  cases item with
  | queued q => exact hkept
  | fold k => exact hkept.foldsPublished p.folds
  | emergency =>
    refine hkept.coveredPublished hp.nodup fun x hx => ?_
    rw [hsame, hp.folds x hx]
    simp

/-! ### What a take puts in flight (R129, R135, R139) -/

/-- R55: the five queued kinds carry no folds, and a CONFIGURE_CHANNEL alone a channel configuration. -/
theorem prepareItem_folds (s : State) (q : QueueItem) : (prepareItem s q).folds = [] := by
  unfold prepareItem
  split
  · unfold preparePosting; dsimp only; split
    · rfl
    · split <;> rfl
  · unfold prepareConfigureTotaliser; dsimp only; split <;> rfl
  · unfold prepareConfigureChannel; dsimp only; split <;> rfl
  · rfl
  · unfold prepareCheckpoint; dsimp only; split <;> rfl

theorem evalConfigureChannel_ok {cfgen : Bool} {work : Working} {f : ChannelFields} {ch : Channel} {n : ChannelConfig}
    (h : evalConfigureChannel cfgen work f ch = .ok n) : n = mergeChannel f ch.config := by
  unfold evalConfigureChannel at h
  split at h
  · cases h
  · split at h
    · cases h
    · dsimp only at h
      split at h
      · cases h
      · exact (Except.ok.inj h).symm

theorem mergeChannel_lawful {f : ChannelFields} {g : ChannelConfig} (hg : g.Lawful)
    (hf : ∀ n ∈ f.threshold, 1 ≤ n ∧ n ≤ 4096) : (mergeChannel f g).Lawful := by
  unfold ChannelConfig.Lawful mergeChannel
  cases hn : f.threshold with
  | none => exact hg
  | some n => exact hf n hn

theorem prepareItem_config {s : State} {q : QueueItem} (hconfigs : ∀ c : Fin 8, s.channels[c].config.Lawful)
    (hq : q.draft.body.ThresholdLawful) : ∀ x ∈ (prepareItem s q).channelConfig, x.2.Lawful := by
  unfold prepareItem
  split
  · unfold preparePosting; dsimp only; split
    · nofun
    · split <;> nofun
  · unfold prepareConfigureTotaliser; dsimp only; split <;> nofun
  · next c f hbody =>
    rw [hbody] at hq
    unfold prepareConfigureChannel
    dsimp only
    split
    · nofun
    · next n hn =>
      rintro x ⟨⟩
      rw [evalConfigureChannel_ok hn]
      exact mergeChannel_lawful (hconfigs c) hq
  · nofun
  · unfold prepareCheckpoint; dsimp only; split <;> nofun

/-- R129, R130: the fold record that a FOLD carries. -/
theorem prepareFold_folds (s : State) (c : Fin 8) :
    ∃ placed, (prepareFold s c).folds = [{ data := s.channels[c].foldRecord c, placed := placed }] := by
  unfold prepareFold
  dsimp only
  split
  exacts [⟨false, rfl⟩, ⟨true, rfl⟩]

/-- R172: a covered channel's result carries its fold record. -/
theorem evalCovered_data (channels : Vector Channel 8) (work : Working) (c : Fin 8) :
    (evalCovered channels work c).data = channels[c].foldRecord c := by
  unfold evalCovered
  dsimp only
  split <;> rfl

theorem evalAllCovered_data (channels : Vector Channel 8) (cs : List (Fin 8)) (work : Working) :
    (evalAllCovered channels work cs).1.map CoveredResult.data = cs.map fun c => channels[c].foldRecord c := by
  induction cs generalizing work with
  | nil => rfl
  | cons c rest ih => simp only [evalAllCovered, List.map_cons, evalCovered_data, ih]

/-- R139, R172: the fold records that the EMERGENCY_FOLD carries. -/
theorem prepareEmergency_folds (s : State) :
    (prepareEmergency s).folds.map FlightFold.data = s.covered.map fun c => s.channels[c].foldRecord c := by
  rw [← evalAllCovered_data s.channels s.covered s.working]
  unfold prepareEmergency
  dsimp only
  split <;> simp [Function.comp_def]

end Sys2Proof.Machine
end

section
/-! PROOFS. Every move keeps the law of the pulse channels (R116, R117). -/

namespace Sys2Proof.Machine

/-- The law without what is stored, which every move keeps by one argument. -/
structure State.ChannelsKept (s : State) : Prop where
  channels : AllKept s.pfTaken s.channels
  flight : ∀ f ∈ s.engine.inFlight, f.prepared.Held s.channels
  draft : ∀ d ∈ s.draft, d.body.ThresholdLawful
  queue : ∀ q ∈ s.queue.items, q.draft.body.ThresholdLawful

theorem channelLaw_iff (s : State) : ChannelLaw s ↔ s.ChannelsKept ∧ s.Stores configsStored := by
  rw [State.stores_configs]
  constructor
  · rintro ⟨hchannels, hfaulted, hflight, hdraft, hqueue, hstores⟩
    refine ⟨⟨fun c => ⟨(hchannels c).1, (hchannels c).2, hfaulted c⟩, fun f hf => ?_, hdraft, hqueue⟩, hstores⟩
    obtain ⟨hnodup, hfolds, hconfig⟩ := hflight f hf
    exact ⟨hnodup, hfolds, hconfig⟩
  · rintro ⟨⟨hchannels, hflight, hdraft, hqueue⟩, hstores⟩
    exact ⟨fun c => ⟨(hchannels c).run, (hchannels c).config⟩, fun c => (hchannels c).faulted,
      fun f hf => ⟨(hflight f hf).nodup, (hflight f hf).folds, (hflight f hf).config⟩, hdraft, hqueue, hstores⟩

/-! ### Drafts (R58, R65) -/

theorem openArguments_threshold {args : Vector Byte 12} {d : Draft} (h : openArguments args = some d) :
    d.body.ThresholdLawful := by
  unfold openArguments at h
  dsimp only at h
  split at h
  · obtain ⟨m, -, rfl⟩ := Option.map_eq_some_iff.1 h; trivial
  · obtain ⟨t, -, rfl⟩ := Option.map_eq_some_iff.1 h; trivial
  · obtain ⟨c, -, rfl⟩ := Option.map_eq_some_iff.1 h; nofun
  · cases h; trivial
  · cases h; trivial
  · cases h

theorem thresholdArg_lawful {args : Vector Byte 12} {n : Nat} (h : thresholdArg args = some n) : 1 ≤ n ∧ n ≤ 4096 := by
  unfold thresholdArg at h
  dsimp only at h
  split at h
  · next hn => cases h; exact hn
  · cases h

/-- A mapped result is one of what was mapped. -/
theorem Except.map_eq_ok {ε α β : Type} {x : Except ε α} {f : α → β} {b : β} (h : x.map f = .ok b) :
    ∃ a, x = .ok a ∧ f a = b := by
  cases x with
  | error e => cases h
  | ok a => exact ⟨a, rfl, Except.ok.inj h⟩

theorem orBadArgument_eq_ok {α : Type} {x : Option α} {a : α} (h : orBadArgument x = .ok a) : x = some a := by
  unfold orBadArgument at h
  split at h
  · exact congrArg some (Except.ok.inj h)
  · cases h

/-- R65: FIELD changes the threshold of a draft only to one of 1 to 4096. -/
theorem channelField_threshold {f g : ChannelFields} {args : Vector Byte 12} {o : OperandBuffer}
    (hf : ∀ n ∈ f.threshold, 1 ≤ n ∧ n ≤ 4096) (h : channelField f args o = .ok g) :
    ∀ n ∈ g.threshold, 1 ≤ n ∧ n ≤ 4096 := by
  unfold channelField at h
  split at h
  case h_3 => cases h; exact hf
  case h_7 =>
    obtain ⟨n, hn, rfl⟩ := Except.map_eq_ok h
    rintro m ⟨⟩
    exact thresholdArg_lawful (orBadArgument_eq_ok hn)
  case h_8 => cases h
  all_goals
    obtain ⟨x, -, rfl⟩ := Except.map_eq_ok h
    exact hf

theorem fieldOn_threshold {b b' : Body} {args : Vector Byte 12} {o : OperandBuffer} (hb : b.ThresholdLawful)
    (h : fieldOn b args o = .ok b') : b'.ThresholdLawful := by
  unfold fieldOn at h
  split at h
  · cases h
  · cases h
  · obtain ⟨g, -, rfl⟩ := Except.map_eq_ok h; trivial
  · obtain ⟨g, hg, rfl⟩ := Except.map_eq_ok h; exact channelField_threshold hb hg
  · split at h
    · split at h <;> cases h
      trivial
    · cases h

/-! ### Restored channels (R118, R179) -/

/-- R165, R178, R179: what start-up loads from a pair stands in one of its copies. -/
theorem Pair.mem_load {α : Type} {k : Word} {p : Pair α} {x : α} (h : x ∈ p.load k) : ∃ c, x ∈ (p.get c).content := by
  unfold Pair.load at h
  split at h
  · next c _ => exact ⟨c, h⟩
  · cases h

theorem kept_restoreChannels {nv : NvArray} (h : nv.Keeps configsStored) (k : Word) (pf : Bool) :
    AllKept pf (restoreChannels k nv.channels) := by
  have hconfigs : ∀ c : Fin 8,
      ((nv.channels.load k).getD (Vector.replicate 8 ChannelConfig.formatted))[c].Lawful := by
    cases hload : nv.channels.load k with
    | none => exact configsStored.formattedConfigs
    | some x =>
      obtain ⟨c, hc⟩ := Pair.mem_load hload
      exact h.channels c x hc
  intro c
  simp only [restoreChannels, Fin.getElem_fin, Vector.getElem_ofFn]
  exact Channel.kept_fresh pf (hconfigs c) _

/-! ### Every move -/

theorem forall_mem_of_none {α : Type} {P : α → Prop} {o : Option α} (h : o = none) : ∀ x ∈ o, P x := by
  subst h; nofun

theorem forall_mem_of_nil {α : Type} {P : α → Prop} {l : List α} (h : l = []) : ∀ x ∈ l, P x := by
  subst h; nofun

namespace State.ChannelsKept
variable {s t : State}

theorem of_eq (h : s.ChannelsKept) (hchannels : t.channels = s.channels) (hpf : t.pfTaken = s.pfTaken)
    (hflight : t.engine.inFlight = s.engine.inFlight) (hdraft : t.draft = s.draft)
    (hqueue : t.queue.items = s.queue.items) : t.ChannelsKept := by
  obtain ⟨ha, hb, hc, hd⟩ := h
  exact ⟨by rwa [hchannels, hpf], by rwa [hchannels, hflight], by rwa [hdraft], by rwa [hqueue]⟩

/-- R170: a PFAIL assertion taken. -/
theorem powerFailed (h : s.ChannelsKept) (hchannels : t.channels = s.channels) (hpf : t.pfTaken = true)
    (hflight : t.engine.inFlight = s.engine.inFlight) (hdraft : t.draft = s.draft)
    (hqueue : t.queue.items = s.queue.items) : t.ChannelsKept := by
  obtain ⟨ha, hb, hc, hd⟩ := h
  refine ⟨?_, by rwa [hchannels, hflight], by rwa [hdraft], by rwa [hqueue]⟩
  rw [hchannels, hpf]
  exact fun c => ⟨(ha c).run, (ha c).config, fun _ _ => rfl⟩

theorem no_flight (hchannels : AllKept s.pfTaken s.channels) (hflight : s.engine.inFlight = none)
    (hdraft : ∀ d ∈ s.draft, d.body.ThresholdLawful) (hqueue : ∀ q ∈ s.queue.items, q.draft.body.ThresholdLawful) :
    s.ChannelsKept :=
  ⟨hchannels, fun f hf => by (rw [hflight] at hf; cases hf), hdraft, hqueue⟩

theorem reset (s : State) : s.ramCleared.ChannelsKept := by
  refine no_flight (fun c => ?_) rfl (forall_mem_of_none rfl) (forall_mem_of_nil rfl)
  have hc : s.ramCleared.channels[c] = { config := ChannelConfig.formatted, run := ChannelRun.fresh false } := by
    simp [State.ramCleared, State.cleared]
  rw [hc]
  exact Channel.kept_fresh _ (by simp [ChannelConfig.Lawful, ChannelConfig.formatted]) _

theorem begun (s : State) : (beginStartup s).ChannelsKept := (reset s).of_eq rfl rfl rfl rfl rfl

theorem ended {j : StartupJob} (fault : Bool) (h : s.ChannelsKept) (hflight : s.engine.inFlight = none)
    (hnv : s.nv.Keeps configsStored) : (endStartup j fault s).ChannelsKept := by
  obtain ⟨-, -, hdraft, hqueue⟩ := h
  obtain ⟨ev, e⟩ := endStartup_eq j fault s
  have echannels : (endStartup j fault s).channels =
      restoreChannels j.control.counter (j.loadedArray fault s.nv).channels := by simp only [e, loadTables]
  have edraft : (endStartup j fault s).draft = s.draft := by simp only [e, loadTables]
  have equeue : (endStartup j fault s).queue = s.queue := by simp only [e, loadTables]
  have eflight : (endStartup j fault s).engine.inFlight = s.engine.inFlight := by simp only [e, loadTables]
  refine no_flight ?_ (eflight.trans hflight) (by rwa [edraft]) (by rwa [equeue])
  rw [echannels]
  exact kept_restoreChannels (hnv.loadedArray j fault) _ _

/-- A count handed over by a channel whose run is lawful (R129, R139). -/
theorem emergencyTaken (h : s.ChannelsKept) (hpf : s.pfTaken = true) : s.emergencyTaken.ChannelsKept := by
  have hget (c : Fin 8) : s.emergencyTaken.channels[c] =
      if 0 < s.channels[c].run.unfolded then { s.channels[c] with run := s.channels[c].run.handedOver }
      else s.channels[c] := by
    simp [State.emergencyTaken]
  refine ⟨fun c => ?_, fun f hf => ?_, h.draft, h.queue⟩
  · rw [hget]
    split
    · next hcount => exact (h.channels c).handedOver hcount fun _ => hpf
    · exact h.channels c
  · cases hf
    have hfolds := prepareEmergency_folds s
    refine ⟨?_, fun x hx => ?_, fun x hx => ?_⟩
    · have hmap : (prepareEmergency s).folds.map (fun x => x.data.channel) = s.covered := by
        have := congrArg (List.map FoldRecord.channel) hfolds
        rw [List.map_map, List.map_map] at this
        exact this.trans (List.map_id _)
      rw [hmap]
      exact covered_nodup s
    · have hmem : x.data ∈ s.covered.map fun c => s.channels[c].foldRecord c := hfolds ▸ List.mem_map_of_mem hx
      obtain ⟨c, hc, e⟩ := List.mem_map.1 hmem
      have hchannel : x.data.channel = c := by rw [← e]; rfl
      have hcount : x.data.count = s.channels[c].run.unfolded := by rw [← e]; rfl
      rw [hget, hchannel, hcount, if_pos (mem_covered.1 hc)]
      rfl
    · rw [(prepareEmergency_alone s).2.1] at hx
      cases hx

theorem emergencyStepped (h : s.ChannelsKept) (hpf : s.pfTaken = true) : s.emergencyStepped.ChannelsKept := by
  rcases emergencyStepped_cases s with ⟨-, -, e⟩ | e <;> rw [e]
  exacts [h.emergencyTaken hpf, h.of_eq rfl rfl rfl rfl rfl]

theorem headTaken (h : s.ChannelsKept) {q : QueueItem} {rest : List QueueItem} (hitems : s.queue.items = q :: rest) :
    (takeHead q s).ChannelsKept := by
  obtain ⟨hchannels, -, hdraft, hqueue⟩ := h
  rw [hitems] at hqueue
  have hq := hqueue q List.mem_cons_self
  have hmarked : AllKept s.pfTaken (match (prepareItem s q).channelConfig with
      | some (c, _) => s.channels.set c
          { config := s.channels[c].config, run := { s.channels[c].run with configInFlight := true } }
      | none => s.channels) := by
    cases (prepareItem s q).channelConfig with
    | none => exact hchannels
    | some x =>
      obtain ⟨hrun, hconfig, hfaulted⟩ := hchannels x.1
      exact AllKept.set hchannels ⟨hrun, hconfig, hfaulted⟩
  rw [takeHead_eq hitems]
  refine ⟨hmarked, fun f hf => ?_, hdraft, fun x hx => ?_⟩
  · cases hf
    refine ⟨?_, fun x hx => ?_, prepareItem_config (fun c => (hchannels c).config) hq⟩
    · rw [prepareItem_folds]; exact List.nodup_nil
    · rw [prepareItem_folds] at hx; exact (List.not_mem_nil hx).elim
  · rcases List.mem_cons.1 hx with rfl | hx
    exacts [hq, hqueue x (List.mem_cons_of_mem _ hx)]

theorem foldTaken (h : s.ChannelsKept) {k : Fin 8} (hrequest : s.channels[k].run.request = true) :
    (takeFold k s).ChannelsKept := by
  obtain ⟨hchannels, -, hdraft, hqueue⟩ := h
  obtain ⟨-, -, -, -, hrequests, -, -⟩ := (hchannels k).run
  obtain ⟨hcount, -, hstate⟩ := hrequests hrequest
  have hlive : s.channels[k].run.state = .faulted → s.pfTaken = true := fun hs => by
    rcases hstate with e | e <;> rw [hs] at e <;> cases e
  rw [takeFold_eq]
  refine ⟨AllKept.set hchannels ((hchannels k).handedOver hcount hlive), fun f hf => ?_, hdraft, hqueue⟩
  cases hf
  obtain ⟨placed, hfolds⟩ := prepareFold_folds s k
  refine ⟨?_, fun x hx => ?_, fun x hx => ?_⟩
  · rw [hfolds]; exact List.nodup_singleton _
  · rw [hfolds, List.mem_singleton] at hx
    subst hx
    show (s.channels.set k _)[k].run.inFlight = _
    rw [getElem_set_channel, if_pos rfl]
    rfl
  · rw [(prepareFold_alone s k).2.1] at hx
    cases hx

theorem published (h : s.ChannelsKept) {f : InFlight} (hflight : s.engine.inFlight = some f) (k : Commit) :
    (publishedState f k s).ChannelsKept := by
  have hqueue : ∀ q ∈ (queuePublished s.queue f.item).items, q.draft.body.ThresholdLawful := by
    cases f.item
    · exact fun q hq => h.queue q (List.mem_of_mem_tail hq)
    · exact h.queue
    · exact h.queue
  have hchannels := h.channels.published (pf' := s.pfTaken) (h.flight f hflight) f.item
  rw [publishedState_eq]
  exact no_flight hchannels rfl h.draft hqueue

theorem submitted (h : s.ChannelsKept) {d : Draft} (n : Word) (hdraft : s.draft = some d) :
    (acceptDraft d n s).ChannelsKept := by
  refine ⟨h.channels, h.flight, forall_mem_of_none rfl, fun q hq => ?_⟩
  rcases List.mem_append.1 hq with hq | hq
  · exact h.queue q hq
  · rw [List.mem_singleton.1 hq]; exact h.draft d hdraft

theorem runChanged (h : s.ChannelsKept) {k : Fin 8} {r : ChannelRun}
    (hkept : RunKept s.pfTaken s.channels[k].config s.channels[k].run r) : (s.withRun k r).ChannelsKept := by
  obtain ⟨hrun, hconfig, hfaulted⟩ := h.channels k
  have hk : Channel.Kept s.pfTaken { config := s.channels[k].config, run := r } :=
    ⟨hkept.lawful hrun hconfig hfaulted, hconfig, fun hs hf => hfaulted (hkept.faulted hs) (hkept.inFlight ▸ hf)⟩
  refine ⟨h.channels.set hk, fun f hf => ?_, h.draft, h.queue⟩
  obtain ⟨hnodup, hfolds, hx⟩ := h.flight f hf
  refine ⟨hnodup, fun x hxm => ?_, hx⟩
  show (s.channels.set k _)[x.data.channel].run.inFlight = _
  rw [getElem_set_channel]
  split
  · next e => subst e; rw [hkept.inFlight]; exact hfolds x hxm
  · exact hfolds x hxm

end State.ChannelsKept

theorem Move.keeps_channelsKept {c : Instr} {s t : State} (hmove : Move c s t) (hphase : PhaseLaw s)
    (h : s.ChannelsKept) (hstores : s.Stores configsStored) : t.ChannelsKept := by
  cases hmove
  case idle | operandPair | acknowledged | pinned | unpinned | cut => exact h.of_eq rfl rfl rfl rfl rfl
  case opened d hargs =>
    exact ⟨h.channels, h.flight, fun x hx => by cases hx; exact openArguments_threshold hargs, h.queue⟩
  case legAdded => exact ⟨h.channels, h.flight, fun x hx => by cases hx; trivial, h.queue⟩
  case fieldSet d b hdraft hfield =>
    exact ⟨h.channels, h.flight, fun x hx => by cases hx; exact fieldOn_threshold (h.draft d hdraft) hfield, h.queue⟩
  case discarded => exact ⟨h.channels, h.flight, forall_mem_of_none rfl, h.queue⟩
  case submitted d n hdraft _ _ _ => exact h.submitted n hdraft
  case cancelled q p =>
    obtain ⟨ev, lock, e⟩ := freeLock_removeItems_eq q (s.queue.items.eraseP p) s
    rw [e]
    exact ⟨h.channels, h.flight, h.draft, fun x hx => h.queue x (List.mem_of_mem_eraseP hx)⟩
  case popped e rest hentries =>
    rcases endHeld_cases { s with journal := { s.journal with head := s.journal.head + 1, entries := rest } } with
      ⟨-, e⟩ | e <;> rw [e] <;> exact h.of_eq rfl rfl rfl rfl rfl
  case runChanged k r hkept => exact h.runChanged hkept
  case restarted => exact .begun s
  case resetHeld => exact .reset _
  case resumed => rcases resumeStartup_cases s with ⟨-, e⟩ | e <;> rw [e] <;> exact h.of_eq rfl rfl rfl rfl rfl
  case powerFailed =>
    rcases takePowerFail_cases s with ⟨-, e⟩ | ⟨-, -, e⟩ | ⟨-, -, e⟩ <;> rw [e]
    · exact h.powerFailed rfl rfl rfl rfl rfl
    · exact h.powerFailed rfl rfl rfl rfl rfl
    · refine State.ChannelsKept.emergencyStepped ?_ rfl
      exact h.powerFailed rfl rfl rfl rfl rfl
  case startupWrite j hstartup matched =>
    have hnone := hphase.flight_of_startup hstartup
    have hj := hstores.startup j hstartup
    have hwrite (done : Bool) {w : NvWrite} (hw : w.Keeps configsStored) := hstores.nv.write done hw
    rcases startupWriteDone_cases matched j s with ⟨-, -, e⟩ | ⟨-, w, rest, -, e⟩ | ⟨-, -, e⟩ | ⟨-, -, e⟩ <;> rw [e]
    · have hk : State.ChannelsKept { s with nv := s.nv.write true j.bootWrite } := h.of_eq rfl rfl rfl rfl rfl
      exact hk.ended false hnone (hwrite true (w := j.bootWrite) trivial)
    · exact h.of_eq rfl rfl rfl rfl rfl
    · have hk : State.ChannelsKept { s with nv := s.nv.write false j.underWay } := h.of_eq rfl rfl rfl rfl rfl
      exact hk.ended true hnone (hwrite false hj.underWay)
    · exact h.of_eq rfl rfl rfl rfl rfl
  case headTaken q hfree hoffers =>
    obtain ⟨rest, hitems⟩ := hoffers.items
    exact h.headTaken hitems
  case foldTaken k hfree hrequest => exact h.foldTaken hrequest
  case advanced k _ => unfold commitAdvance; split <;> exact h.of_eq rfl rfl rfl rfl rfl
  case published k f _ _ _ hflight =>
    have hp := h.published hflight k
    rcases completeCommit_cases k f s with ⟨-, e⟩ | ⟨-, hpf, e⟩ | ⟨-, -, -, e⟩ | ⟨-, -, -, e⟩ <;> rw [e]
    · exact hp.of_eq rfl rfl rfl rfl rfl
    · exact hp.emergencyStepped (by rw [publishedState_eq]; exact hpf)
    · exact .begun _
    · exact hp
  case failed k _ =>
    rcases failAttempt_cases k s with ⟨-, e⟩ | ⟨-, ⟨-, e⟩ | ⟨-, -, e⟩ | ⟨-, -, e⟩⟩ <;> rw [e]
    exacts [h.of_eq rfl rfl rfl rfl rfl, h.of_eq rfl rfl rfl rfl rfl, h.of_eq rfl rfl rfl rfl rfl, .begun _]

/-- The configurations of lawful channels with a lawful one put among them are lawful. -/
theorem configs_set_lawful {s : State} (h : ∀ c : Fin 8, s.channels[c].config.Lawful) {k : Fin 8} {x : ChannelConfig}
    (hx : x.Lawful) (c : Fin 8) : (s.configs.set k x)[c].Lawful := by
  by_cases e : k = c
  · subst e; simpa using hx
  · have ev : (k : Nat) ≠ c := fun he => e (Fin.ext he)
    simpa [State.configs, ev] using h c

theorem Move.keeps_channelLaw {c : Instr} {s t : State} (hmove : Move c s t) (hphase : PhaseLaw s) (h : ChannelLaw s) :
    ChannelLaw t := by
  rw [channelLaw_iff] at h ⊢
  obtain ⟨hkept, hstores⟩ := h
  have ht := hmove.keeps_channelsKept hphase hkept hstores
  refine ⟨ht, hmove.keeps_stores hstores fun f hf => ?_⟩
  exact ⟨fun _ _ => trivial, trivial,
    fun x hx => configs_set_lawful (fun d => (ht.channels d).config) ((ht.flight f hf).config x hx)⟩

/-- Settles O57, move by move: each channel by `ChannelsKept`, the configurations by what is stored. -/
theorem channelLawKept : Obligations.ChannelLawKept := fun _ _ hphase hs hstep =>
  step_keeps ChannelLaw.congr PhaseLaw.congr (fun hm hp => hm.keeps_channelLaw hp) hphase hs hstep

end Sys2Proof.Machine
end

section
/-! PROOFS. Lawful totaliser records (R20, R21): what a change, a posting, a fold and a CONFIGURE_TOTALISER leave of them
(R24 to R32, R38 to R42, R96, R103, R172), and the limits that drafts carry (R64). -/

namespace Sys2Proof.Machine

/-! ### Records whose value and residue change (R25 to R32) -/

theorem Record.unused_lawful : Record.unused.Lawful := by
  refine ⟨rfl, nofun, nofun, ?_, ?_, by decide, fun _ => rfl⟩ <;>
    simp [Record.lowerBound, Record.upperBound, Record.unused, Config.capacity]

theorem Record.lost_lawful : Record.lost.Lawful := Record.unused_lawful

/-- R20: what a record may be given as value and residue. -/
structure Record.Admits (r : Record) (v : Int) (f : Nat) : Prop where
  lower : r.lowerBound ≤ v
  upper : v ≤ r.upperBound
  fraction : f < subUnits
  carry : r.rounding ≠ .carry → f = 0

theorem Record.Lawful.admits {r : Record} (h : r.Lawful) : r.Admits r.value r.residue := by
  obtain ⟨-, -, -, hlower, hupper, hresidue, hcarry⟩ := h
  exact ⟨hlower, hupper, hresidue, hcarry⟩

theorem Record.Lawful.given {r : Record} (h : r.Lawful) {v : Int} {f : Nat} (ha : r.Admits v f) (n : Word) :
    ({ r with value := v, residue := f, revision := n } : Record).Lawful := by
  obtain ⟨hlegal, hup, hlow, -⟩ := h
  exact ⟨hlegal, hup, hlow, ha.lower, ha.upper, ha.fraction, ha.carry⟩

theorem Record.Lawful.revised {r : Record} (h : r.Lawful) (n : Word) : ({ r with revision := n } : Record).Lawful := h

theorem subUnits_pos : 0 < subUnits := by decide

/-- R9: the fraction of an amount is less than one unit. -/
theorem carryFraction_lt (coef s t : Nat) : carryFraction coef s t < subUnits := by
  have hexcess (e : Nat) : excess coef e < 10 ^ e := Nat.mod_lt _ (by positivity)
  have hunits : subUnits = 10 ^ 8 := rfl
  unfold carryFraction
  split
  · decide
  · split
    · next he =>
      rw [hunits, ← Nat.add_sub_cancel' he, pow_add, Nat.add_sub_cancel_left]
      exact Nat.mul_lt_mul_of_pos_right (hexcess _) (by positivity)
    · next he =>
      rw [hunits, Nat.div_lt_iff_lt_mul (by positivity), ← pow_add]
      have := hexcess (s - t)
      rwa [show 8 + (s - t - 8) = s - t by omega]

/-- R9, R10: a candidate's residue is less than one unit, and zero unless the rounding is CARRY. -/
theorem candidate_residue {r : Record} (h : r.residue < subUnits) (c : Change) :
    (candidate r c).2 < subUnits ∧ (r.rounding ≠ .carry → (candidate r c).2 = 0) := by
  cases c with
  | delta d =>
    by_cases hc : r.rounding = .carry
    · rw [candidate_delta_of_carry hc]
      exact ⟨(carryCombine_spec h (carryFraction_lt _ _ _)).2, fun hn => absurd hc hn⟩
    · rw [candidate_delta_of_not_carry hc]
      exact ⟨subUnits_pos, fun _ => rfl⟩
  | set d => exact ⟨subUnits_pos, fun _ => rfl⟩
  | clear => exact ⟨subUnits_pos, fun _ => rfl⟩

theorem Record.upper_eq_none_of_wrap {r : Record} (h : r.legal = true) (hp : r.policy = .wrap) :
    r.upper = none ∧ r.kind ≠ .balance := by
  simp only [Record.legal, Bool.and_eq_true, Bool.not_eq_true', Bool.and_eq_false_iff, hp, beq_self_eq_true,
    Bool.true_eq_false, false_or] at h
  obtain ⟨⟨⟨⟨-, hkind⟩, hupper⟩, -⟩, -⟩ := h
  exact ⟨by simpa using hupper, by simpa using hkind⟩

/-- R32: a WRAP record holds 0 to 999,999,999,999,999,999. -/
theorem Record.Lawful.admits_wrapped {r : Record} (h : r.Lawful) (hp : r.policy = .wrap) {f : Nat} (hf : f < subUnits)
    (hcarry : r.rounding ≠ .carry → f = 0) (v : Int) : r.Admits (v % (Config.capacity + 1)) f := by
  obtain ⟨hlegal, -⟩ := h
  obtain ⟨hupper, hkind⟩ := Record.upper_eq_none_of_wrap hlegal hp
  have hpos : (0 : Int) < Config.capacity + 1 := by decide
  refine ⟨?_, ?_, hf, hcarry⟩
  · rw [Record.lowerBound_eq_zero hlegal hkind]
    exact Int.emod_nonneg _ hpos.ne'
  · rw [Record.upperBound, hupper]
    exact Int.le_of_lt_add_one (Int.emod_lt_of_pos v hpos)

/-- R26 to R32: a change that passes yields a value and a residue that its record admits. -/
theorem Record.Lawful.admits_applied {r : Record} (h : r.Lawful) {c : Change} {a : Applied}
    (ha : applyChange r c = .ok a) : r.Admits a.value a.residue := by
  obtain ⟨hlower, hupper, hresidue, -⟩ := h.admits
  obtain ⟨hlt, hcarry⟩ := candidate_residue hresidue c
  obtain ⟨-, e⟩ | ⟨-, -, e⟩ | ⟨-, -, e⟩ := applyChange_cases r c
  · cases e.symm.trans ha
  · cases e.symm.trans ha
  · rw [e] at ha
    obtain ⟨hl, hu, e⟩ | ⟨-, e⟩ | ⟨-, -, e⟩ | ⟨-, -, e⟩ | ⟨hp, -, e⟩ := bounded_cases r (candidate r c) <;>
      cases e.symm.trans ha
    · exact ⟨hl, hu, hlt, hcarry⟩
    · exact ⟨hlower.trans hupper, le_refl _, subUnits_pos, fun _ => rfl⟩
    · exact ⟨le_refl _, hlower.trans hupper, subUnits_pos, fun _ => rfl⟩
    · exact h.admits_wrapped hp hlt hcarry _

/-! ### Working copies (R96, R103, R172) -/

/-- Every working copy is lawful. -/
def Working.Lawful (w : Working) : Prop := ∀ t : Fin 64, w[t].Lawful

/-- An effect gives its target what its target admits, unless it is SKIPPED. -/
def Effect.FitsOn (e : Effect) (w : Working) : Prop :=
  e.mark ≠ .skipped → w[e.target].Admits e.value e.residue

theorem Working.Lawful.takeEffect {w : Working} (h : w.Lawful) {e : Effect} (he : e.FitsOn w) :
    Working.Lawful (takeEffect w e) := by
  intro t
  rw [takeEffect_getElem]
  split
  · next hx =>
    obtain ⟨rfl, hmark⟩ := hx
    exact (h e.target).given (he hmark) _
  · exact h t

theorem Applied.effect_fits {w : Working} {a : Applied} {t : Fin 64} {c : Change} (h : w.Lawful)
    (ha : applyChange w[t] c = .ok a) : (a.effect t w[t]).FitsOn w :=
  fun _ => (h t).admits_applied ha

theorem skippedEffect_fits (w : Working) (t : Fin 64) (r : Record) : (skippedEffect t r).FitsOn w :=
  fun h => absurd rfl h

/-- R98, R100: a leg that passes yields a SKIPPED effect, or the effect of a change its target admits. -/
theorem evalLeg_cases {bank : Bank} {mode : GuardMode} {w : Working} {l : Leg} {x : LegResult}
    (h : evalLeg bank mode w l = .ok x) :
    x.effect = skippedEffect l.target w[l.target] ∨
      ∃ a, applyChange w[l.target] (legChange bank w l) = .ok a ∧ x.effect = a.effect l.target w[l.target] := by
  unfold evalLeg at h
  split at h
  · cases h
  · split at h
    · cases h
    · split at h
      · split at h <;> cases h
        exact .inl rfl
      · split at h <;> cases h
        next a ha => exact .inr ⟨a, ha, rfl⟩

theorem evalLeg_fits {bank : Bank} {mode : GuardMode} {w : Working} {l : Leg} {x : LegResult} (hw : w.Lawful)
    (h : evalLeg bank mode w l = .ok x) : x.effect.FitsOn w := by
  rcases evalLeg_cases h with e | ⟨a, ha, e⟩ <;> rw [e]
  exacts [skippedEffect_fits w _ _, Applied.effect_fits hw ha]

/-- R96: what the legs leave is lawful. -/
theorem Working.Lawful.evalLegs {bank : Bank} {mode : GuardMode} {legs : List Leg} {i : Nat} {w w' : Working}
    {xs : List LegResult} (hw : w.Lawful) (h : evalLegs bank mode i w legs = .ok (xs, w')) : w'.Lawful := by
  induction legs generalizing i w xs with
  | nil => cases h; exact hw
  | cons l rest ih =>
    cases hx : evalLeg bank mode w l with
    | error r => simp [Machine.evalLegs, hx] at h
    | ok x =>
      cases hrest : Machine.evalLegs bank mode (i + 1) (Machine.takeEffect w x.effect) rest with
      | error e => simp [Machine.evalLegs, hx, hrest] at h
      | ok y =>
        obtain ⟨ys, w''⟩ := y
        simp only [Machine.evalLegs, hx, hrest, Except.ok.injEq, Prod.mk.injEq] at h
        obtain ⟨-, rfl⟩ := h
        exact ih (hw.takeEffect (evalLeg_fits hw hx)) hrest

theorem evalFold_ok {r : Record} {g : ChannelConfig} {n : Nat} {a : Applied} (h : evalFold r g n = .ok a) :
    applyChange r (foldChange g n) = .ok a := by
  unfold evalFold at h
  split at h
  · cases h
  · exact h

/-- R172: a covered channel's effect is SKIPPED, or that of its fold's change. -/
theorem evalCovered_cases (channels : Vector Channel 8) (w : Working) (c : Fin 8) :
    let t := channels[c].config.target
    let fold := evalFold w[t] channels[c].config channels[c].run.unfolded
    (∃ reason, fold = .error reason ∧ evalCovered channels w c =
      { data := channels[c].foldRecord c, effect := skippedEffect t w[t], marks := refusedMark reason (some t),
        reason := some reason }) ∨
    ∃ a, fold = .ok a ∧ evalCovered channels w c =
      { data := channels[c].foldRecord c, effect := a.effect t w[t], marks := a.marks t, reason := none } := by
  intro t fold
  cases hf : fold with
  | error reason =>
    have hcount : evalFold w[channels[c].config.target] channels[c].config (channels[c].foldRecord c).count =
      .error reason := hf
    exact .inl ⟨reason, rfl, by simp only [evalCovered, hcount, t]⟩
  | ok a =>
    have hcount : evalFold w[channels[c].config.target] channels[c].config (channels[c].foldRecord c).count =
      .ok a := hf
    exact .inr ⟨a, rfl, by simp only [evalCovered, hcount, t]⟩

theorem evalCovered_fits (channels : Vector Channel 8) {w : Working} (hw : w.Lawful) (c : Fin 8) :
    (evalCovered channels w c).effect.FitsOn w := by
  rcases evalCovered_cases channels w c with ⟨reason, -, e⟩ | ⟨a, ha, e⟩ <;> rw [e]
  exacts [skippedEffect_fits w _ _, Applied.effect_fits hw (evalFold_ok ha)]

theorem Working.Lawful.evalAllCovered {channels : Vector Channel 8} {cs : List (Fin 8)} {w : Working}
    (hw : w.Lawful) : Working.Lawful (evalAllCovered channels w cs).2 := by
  induction cs generalizing w with
  | nil => exact hw
  | cons c rest ih => exact ih (hw.takeEffect (evalCovered_fits channels hw c))

theorem mem_givenRecords {n : Word} {effects : List Effect} {w : Working} {x : Fin 64 × Record} :
    x ∈ givenRecords n effects w ↔
      (∃ e ∈ effects, e.target = x.1 ∧ e.mark ≠ .skipped) ∧ x.2 = { w[x.1] with revision := n } := by
  obtain ⟨t, r⟩ := x
  simp only [givenRecords, List.mem_map, List.mem_filter, List.mem_finRange, true_and, List.any_eq_true,
    Bool.and_eq_true, beq_iff_eq, bne_iff_ne, Prod.mk.injEq]
  constructor
  · rintro ⟨u, hu, rfl, rfl⟩; exact ⟨hu, rfl⟩
  · rintro ⟨hu, hr⟩; exact ⟨t, hu, rfl, hr.symm⟩

/-! ### CONFIGURE_TOTALISER (R38 to R42) -/

theorem kept_le (coef e : Nat) : kept coef e ≤ coef := Nat.div_le_self _ _

/-- R2, R11: exact alignment of a decimal of at most 18 digits has at most 18 digits. -/
theorem Dec.alignExact_fits {x : Dec} {t : Nat} {v : Int} (hx : x.Fits) (h : x.alignExact t = some v) :
    -Config.capacity ≤ v ∧ v ≤ Config.capacity := by
  have hv : v.natAbs < 10 ^ 18 := by
    obtain ⟨-, hlt, rfl⟩ | ⟨-, -, rfl⟩ := Dec.alignExact_eq_some.1 h
    · exact hlt
    · rw [Int.natAbs_mul, Int.natAbs_natCast]
      refine lt_of_le_of_lt ?_ hx
      have hsign : x.value.sign.natAbs ≤ 1 := by
        rw [Int.natAbs_sign]
        split <;> decide
      calc x.value.sign.natAbs * kept x.value.natAbs (x.scale - t) ≤ 1 * kept x.value.natAbs (x.scale - t) :=
            Nat.mul_le_mul_right _ hsign
        _ ≤ x.value.natAbs := by rw [one_mul]; exact kept_le _ _
  have hcap : Config.capacity = 10 ^ 18 - 1 := by decide
  omega

/-- R39: a limit of a resulting record lies within the capacity. -/
theorem mergedLimit_lawful {carried : Option (Option Dec)} {present : Option Int} {old new : Nat} {l : Option Int}
    (hcarried : ∀ d, carried = some (some d) → d.Fits) (hpresent : limitLawful present)
    (h : mergedLimit carried present old new = some l) : limitLawful l := by
  unfold mergedLimit at h
  split at h
  · cases h; nofun
  · next d =>
    obtain ⟨v, hv, rfl⟩ := Option.map_eq_some_iff.1 h
    rintro x ⟨⟩
    exact Dec.alignExact_fits (hcarried d rfl) hv
  · split at h
    · cases h; nofun
    · next p =>
      obtain ⟨v, hv, rfl⟩ := Option.map_eq_some_iff.1 h
      rintro x ⟨⟩
      obtain ⟨hlow, hhigh⟩ := hpresent p rfl
      have hcap : Config.capacity = 10 ^ 18 - 1 := by decide
      have hfits : ({ value := p, scale := old } : Dec).Fits := show p.natAbs < 10 ^ 18 by omega
      exact Dec.alignExact_fits hfits hv

/-- R39: the parts of a resulting record. -/
theorem mergeRecord_eq_some {f : TotFields} {r n : Record} (h : mergeRecord f r = some n) :
    n.state = .active ∧ n.kind = f.kind.getD r.kind ∧ n.scale = f.scale.getD r.scale ∧
    n.rounding = f.rounding.getD r.rounding ∧ n.policy = f.policy.getD r.policy ∧
    mergedLimit f.upper r.upper r.scale n.scale = some n.upper ∧
    mergedLimit f.lower r.lower r.scale n.scale = some n.lower ∧ mergedValue f r n.scale = some n.value ∧
    n.residue = (if f.initial.isSome || n.rounding != .carry || n.scale != r.scale then 0 else r.residue) ∧
    n.revision = r.revision := by
  unfold mergeRecord at h
  dsimp only at h
  split at h
  · next upper lower value hu hl hv =>
    cases h
    exact ⟨rfl, rfl, rfl, rfl, rfl, hu, hl, hv, rfl, rfl⟩
  · cases h

/-- R40, R41: everything that the resulting record can be. -/
theorem resultingRecord_cases (f : TotFields) (r : Record) :
    ((mergeRecord f r = none ∨ ∃ n, mergeRecord f r = some n ∧
        (n.legal = false ∨ initialMisfits f n.kind = true ∨ scaleMisfits f r = true ∨ bringsActive f r = false)) ∧
      resultingRecord f r = .error .badConfig) ∨
    ∃ n, mergeRecord f r = some n ∧ n.legal = true ∧ initialMisfits f n.kind = false ∧ scaleMisfits f r = false ∧
      bringsActive f r = true ∧
      ((¬(n.lowerBound ≤ n.value ∧ n.value ≤ n.upperBound) ∧ resultingRecord f r = .error .outOfLimits) ∨
        (n.lowerBound ≤ n.value ∧ n.value ≤ n.upperBound ∧ resultingRecord f r = .ok n)) := by
  unfold resultingRecord
  cases hmerge : mergeRecord f r with
  | none => exact .inl ⟨.inl rfl, rfl⟩
  | some n =>
    dsimp only
    by_cases hbad : (!n.legal || initialMisfits f n.kind || scaleMisfits f r || !bringsActive f r) = true
    · rw [if_pos hbad]
      simp only [Bool.or_eq_true, Bool.not_eq_true', or_assoc] at hbad
      exact .inl ⟨.inr ⟨n, rfl, hbad⟩, rfl⟩
    · rw [if_neg hbad]
      simp only [Bool.or_eq_true, Bool.not_eq_true', not_or, Bool.not_eq_true, Bool.not_eq_false] at hbad
      obtain ⟨⟨⟨hlegal, hinitial⟩, hscale⟩, hbrings⟩ := hbad
      refine .inr ⟨n, rfl, hlegal, hinitial, hscale, hbrings, ?_⟩
      by_cases hout : n.value < n.lowerBound ∨ n.upperBound < n.value
      · exact .inl ⟨by omega, if_pos hout⟩
      · exact .inr ⟨by omega, by omega, if_neg hout⟩

/-- R20, R39 to R41: the resulting record is lawful. -/
theorem Record.Lawful.resulting {r n : Record} (h : r.Lawful) {f : TotFields}
    (hupper : ∀ d, f.upper = some (some d) → d.Fits) (hlower : ∀ d, f.lower = some (some d) → d.Fits)
    (hn : resultingRecord f r = .ok n) : n.Lawful := by
  obtain ⟨-, hup, hlow, -, -, hresidue, -⟩ := h
  obtain ⟨-, e⟩ | ⟨m, hmerge, hlegal, -, -, -, ⟨-, e⟩ | ⟨hl, hu, e⟩⟩ := resultingRecord_cases f r <;>
    cases e.symm.trans hn
  obtain ⟨-, -, -, -, -, hmu, hml, -, hmr, -⟩ := mergeRecord_eq_some hmerge
  refine ⟨hlegal, mergedLimit_lawful hupper hup hmu, mergedLimit_lawful hlower hlow hml, hl, hu, ?_, fun hc => ?_⟩
  · rw [hmr]
    split
    exacts [subUnits_pos, hresidue]
  · rw [hmr, if_pos]
    simp [hc]

/-- R38: everything that the evaluation of a CONFIGURE_TOTALISER can be. -/
theorem evalConfigureTotaliser_cases (cfgen bound : Bool) (f : TotFields) (r : Record) :
    (cfgen = false ∧ evalConfigureTotaliser cfgen bound f r = .error .protected_) ∨
    (cfgen = true ∧ f.active = some false ∧ bound = true ∧ evalConfigureTotaliser cfgen bound f r = .error .bound) ∨
    (cfgen = true ∧ f.active = some false ∧ bound = false ∧
      evalConfigureTotaliser cfgen bound f r = .ok Record.unused) ∨
    (cfgen = true ∧ f.active ≠ some false ∧ evalConfigureTotaliser cfgen bound f r = resultingRecord f r) := by
  unfold evalConfigureTotaliser
  cases cfgen
  · exact .inl ⟨rfl, rfl⟩
  · by_cases ha : f.active = some false
    · cases bound
      · exact .inr (.inr (.inl ⟨rfl, ha, rfl, by simp [ha]⟩))
      · exact .inr (.inl ⟨rfl, ha, rfl, by simp [ha]⟩)
    · exact .inr (.inr (.inr ⟨rfl, ha, by simp [ha]⟩))

theorem Record.Lawful.configured {r n : Record} (h : r.Lawful) {f : TotFields} {cfgen bound : Bool}
    (hupper : ∀ d, f.upper = some (some d) → d.Fits) (hlower : ∀ d, f.lower = some (some d) → d.Fits)
    (hn : evalConfigureTotaliser cfgen bound f r = .ok n) : n.Lawful := by
  obtain ⟨-, e⟩ | ⟨-, -, -, e⟩ | ⟨-, -, -, e⟩ | ⟨-, -, e⟩ := evalConfigureTotaliser_cases cfgen bound f r
  · cases e.symm.trans hn
  · cases e.symm.trans hn
  · cases e.symm.trans hn; exact Record.unused_lawful
  · exact h.resulting hupper hlower (e.symm.trans hn)

/-! ### What every evaluation gives (R103, R130, R172) -/

/-- Every published record is lawful. -/
def State.TotalsLawful (s : State) : Prop := ∀ t : Fin 64, s.totals[t].data.Lawful

theorem State.TotalsLawful.working {s : State} (h : s.TotalsLawful) : s.working.Lawful := fun t => by
  rw [working_getElem]; exact h t

theorem givenRecords_lawful {n : Word} {effects : List Effect} {w : Working} (hw : w.Lawful) :
    ∀ x ∈ givenRecords n effects w, x.2.Lawful := fun x hx => by
  rw [(mem_givenRecords.1 hx).2]
  exact (hw x.1).revised n

theorem prepareItem_records_lawful {s : State} {q : QueueItem} (h : s.TotalsLawful) (hq : q.draft.body.LimitsFit) :
    ∀ x ∈ (prepareItem s q).records, x.2.Lawful := by
  unfold prepareItem
  split
  · unfold preparePosting
    dsimp only
    split
    · exact forall_mem_of_nil rfl
    · split
      · exact forall_mem_of_nil rfl
      · next hlegs => exact givenRecords_lawful (h.working.evalLegs hlegs)
  · next t f hbody =>
    rw [hbody] at hq
    unfold prepareConfigureTotaliser
    dsimp only
    split
    · exact forall_mem_of_nil rfl
    · next n hn =>
      intro x hx
      rw [List.mem_singleton.1 hx]
      exact ((h t).configured hq.1 hq.2 hn).revised _
  · unfold prepareConfigureChannel; dsimp only; split <;> exact forall_mem_of_nil rfl
  · exact forall_mem_of_nil rfl
  · unfold prepareCheckpoint; dsimp only; split <;> exact forall_mem_of_nil rfl

theorem prepareFold_records_lawful {s : State} (h : s.TotalsLawful) (c : Fin 8) :
    ∀ x ∈ (prepareFold s c).records, x.2.Lawful := by
  unfold prepareFold
  dsimp only
  split
  · exact forall_mem_of_nil rfl
  · next a ha =>
    intro x hx
    rw [List.mem_singleton.1 hx]
    exact (h _).given ((h _).admits_applied (evalFold_ok ha)) _

theorem prepareEmergency_records_lawful {s : State} (h : s.TotalsLawful) :
    ∀ x ∈ (prepareEmergency s).records, x.2.Lawful := by
  unfold prepareEmergency
  dsimp only
  split
  · exact givenRecords_lawful h.working.evalAllCovered
  · exact forall_mem_of_nil rfl

/-! ### The limits of drafts (R14, R64) -/

theorem pairValue_lt {b : Byte} (h : pairLegal b = true) : pairValue b < 100 := by
  simp only [pairLegal, decide_eq_true_eq] at h
  unfold pairValue
  omega

theorem pairsValue_lt {l : List Byte} (h : ∀ b ∈ l, pairLegal b = true) : pairsValue l < 100 ^ l.length := by
  induction l with
  | nil => simp [pairsValue]
  | cons b rest ih =>
    have hb := pairValue_lt (h b List.mem_cons_self)
    have hrest := ih fun x hx => h x (List.mem_cons_of_mem _ hx)
    rw [pairsValue, List.length_cons, pow_succ]
    omega

/-- R14: every stored pair holds two digits. -/
def OperandBuffer.PairsLegal (o : OperandBuffer) : Prop := ∀ i : Fin 9, pairLegal o.pairs[i] = true

theorem OperandBuffer.PairsLegal.coefficient_lt {o : OperandBuffer} (h : o.PairsLegal) : o.coefficient < 10 ^ 18 := by
  have hall : ∀ b ∈ o.pairs.toList.take o.count, pairLegal b = true := fun b hb => by
    obtain ⟨i, hi, rfl⟩ := List.getElem_of_mem (List.mem_of_mem_take hb)
    have hlt : i < 9 := by simpa using hi
    simpa using h ⟨i, hlt⟩
  have hlen : (o.pairs.toList.take o.count).length ≤ 9 := by simp
  calc o.coefficient < 100 ^ (o.pairs.toList.take o.count).length := pairsValue_lt hall
    _ ≤ 100 ^ 9 := Nat.pow_le_pow_right (by decide) hlen
    _ = 10 ^ 18 := by norm_num

theorem OperandBuffer.pairsLegal_cleared : OperandBuffer.cleared.PairsLegal := fun i => by
  simp [OperandBuffer.cleared, pairLegal]

theorem OperandBuffer.PairsLegal.push {o : OperandBuffer} (h : o.PairsLegal) (data : Byte) :
    (pushPair data o).PairsLegal := by
  rcases pushPair_cases data o with ⟨hroom, e⟩ | ⟨-, e⟩ <;> rw [e]
  · intro i
    by_cases hi : o.count = i
    · simp only [Fin.getElem_fin, hi, Vector.getElem_set_self]
      split
      · next hlegal => exact hlegal
      · rfl
    · simpa [hi] using h i
  · exact h

theorem OperandBuffer.PairsLegal.write {o : OperandBuffer} (h : o.PairsLegal) (data : Byte) :
    (writeOperand data o).PairsLegal := by
  unfold writeOperand
  split
  · exact h.push data
  · exact OperandBuffer.PairsLegal.push (o := { OperandBuffer.cleared with seriesOpen := true })
      OperandBuffer.pairsLegal_cleared data

theorem valueField_fits {args : Vector Byte 12} {o : OperandBuffer} {d : Dec} (ho : o.PairsLegal)
    (h : valueField args o = .ok d) : d.Fits := by
  unfold valueField at h
  split at h
  · next neg scale _ _ =>
    split at h <;> cases h
    have := ho.coefficient_lt
    cases neg <;> simpa [Dec.Fits, Dec.ofSign] using this
  · cases h

theorem limitField_fits {args : Vector Byte 12} {o : OperandBuffer} {l : Option Dec} (ho : o.PairsLegal)
    (h : limitField args o = .ok l) : ∀ d, l = some d → d.Fits := by
  unfold limitField at h
  split at h
  · cases h; nofun
  · obtain ⟨d, hd, rfl⟩ := Except.map_eq_ok h
    rintro d' ⟨⟩
    exact valueField_fits ho hd
  · cases h

/-- R64: FIELD gives a draft only limits of at most 18 digits. -/
theorem totaliserField_fits {f g : TotFields} {args : Vector Byte 12} {o : OperandBuffer} {t : Fin 64}
    (ho : o.PairsLegal) (hf : (Body.configureTotaliser t f).LimitsFit) (h : totaliserField f args o = .ok g) :
    (Body.configureTotaliser t g).LimitsFit := by
  obtain ⟨hupper, hlower⟩ := hf
  unfold totaliserField at h
  split at h
  case h_6 =>
    obtain ⟨l, hl, rfl⟩ := Except.map_eq_ok h
    exact ⟨fun d hd => limitField_fits ho hl d (Option.some.inj hd), hlower⟩
  case h_7 =>
    obtain ⟨l, hl, rfl⟩ := Except.map_eq_ok h
    exact ⟨hupper, fun d hd => limitField_fits ho hl d (Option.some.inj hd)⟩
  case h_9 => cases h
  all_goals
    obtain ⟨x, -, rfl⟩ := Except.map_eq_ok h
    exact ⟨hupper, hlower⟩

theorem fieldOn_limits {b b' : Body} {args : Vector Byte 12} {o : OperandBuffer} (ho : o.PairsLegal)
    (hb : b.LimitsFit) (h : fieldOn b args o = .ok b') : b'.LimitsFit := by
  unfold fieldOn at h
  split at h
  · cases h
  · cases h
  · next t f =>
    obtain ⟨g, hg, rfl⟩ := Except.map_eq_ok h
    exact totaliserField_fits (t := t) ho hb hg
  · obtain ⟨g, -, rfl⟩ := Except.map_eq_ok h; trivial
  · split at h
    · split at h <;> cases h
      trivial
    · cases h

theorem openArguments_limits {args : Vector Byte 12} {d : Draft} (h : openArguments args = some d) :
    d.body.LimitsFit := by
  unfold openArguments at h
  dsimp only at h
  split at h
  · obtain ⟨m, -, rfl⟩ := Option.map_eq_some_iff.1 h; trivial
  · obtain ⟨t, -, rfl⟩ := Option.map_eq_some_iff.1 h; exact ⟨nofun, nofun⟩
  · obtain ⟨c, -, rfl⟩ := Option.map_eq_some_iff.1 h; trivial
  · cases h; trivial
  · cases h; trivial
  · cases h

end Sys2Proof.Machine
end

section
/-! PROOFS. Every move keeps the law of the totalisers (R20, R21). -/

namespace Sys2Proof.Machine

/-- R20, R21: the records stored are lawful. -/
def recordsStored : StoredLaw where
  record := Record.Lawful
  control _ := True
  configs _ := True
  unused := Record.unused_lawful
  formatted := trivial
  boot _ _ _ := trivial
  formattedConfigs := trivial

theorem TableWrite.keeps_records (w : TableWrite) : w.Keeps recordsStored ↔ w.RecordLawful := by cases w <;> exact Iff.rfl

theorem NvWrite.keeps_records (w : NvWrite) : w.Keeps recordsStored ↔ w.RecordLawful := by
  cases w with
  | table w => exact w.keeps_records
  | _ => exact Iff.rfl

theorem Intent.keeps_records (i : Intent) : i.Keeps recordsStored ↔ ∀ w ∈ i.tables, w.RecordLawful :=
  ⟨fun h w hw => w.keeps_records.1 (h.tables w hw), fun h => ⟨fun w hw => w.keeps_records.2 (h w hw), trivial⟩⟩

theorem State.stores_records (s : State) : s.Stores recordsStored ↔
    s.nv.RecordsLawful ∧
    (∀ c ∈ s.commit, (∀ w ∈ c.intent.tables, w.RecordLawful) ∧
      (∀ w ∈ c.stage.remaining c.intent, w.RecordLawful)) ∧
    (∀ j, s.startup = some (.writing j) → ∀ w ∈ j.settle, w.RecordLawful) := by
  constructor
  · rintro ⟨⟨hhome, -, -, hintent⟩, hcommit, hstartup⟩
    refine ⟨⟨fun t => ⟨hhome t .a, hhome t .b⟩, fun i hi => i.keeps_records.1 (hintent i hi)⟩, fun k hk => ?_,
      fun j hj w hw => ?_⟩
    · exact ⟨k.intent.keeps_records.1 (hcommit k hk).intent, fun w hw => w.keeps_records.1 ((hcommit k hk).remaining w hw)⟩
    · exact w.keeps_records.1 ((hstartup j hj).settle w hw)
  · rintro ⟨⟨hhome, hintent⟩, hcommit, hstartup⟩
    refine ⟨⟨fun t c => by cases c; exacts [(hhome t).1, (hhome t).2], fun _ _ _ => trivial, fun _ _ _ => trivial,
      fun i hi => i.keeps_records.2 (hintent i hi)⟩, fun k hk => ?_, fun j hj => ?_⟩
    · exact ⟨k.intent.keeps_records.2 (hcommit k hk).1, fun w hw => w.keeps_records.2 ((hcommit k hk).2 w hw)⟩
    · exact ⟨fun w hw => w.keeps_records.2 (hstartup j hj w hw), trivial, trivial⟩

/-- The law without what is stored, which every move keeps by one argument. -/
structure State.TotalsKept (s : State) : Prop where
  totals : s.TotalsLawful
  flight : ∀ f ∈ s.engine.inFlight, ∀ r ∈ f.prepared.records, r.2.Lawful
  pairs : s.operand.PairsLegal
  draft : ∀ d ∈ s.draft, d.body.LimitsFit
  queue : ∀ q ∈ s.queue.items, q.draft.body.LimitsFit

theorem totalsLaw_iff (s : State) : TotalsLaw s ↔ s.TotalsKept ∧ s.Stores recordsStored := by
  rw [State.stores_records]
  constructor
  · rintro ⟨htotals, hflight, hnv, hcommit, hstartup, hpairs, hdraft, hqueue⟩
    exact ⟨⟨htotals, hflight, hpairs, hdraft, hqueue⟩, hnv, hcommit, hstartup⟩
  · rintro ⟨⟨htotals, hflight, hpairs, hdraft, hqueue⟩, hnv, hcommit, hstartup⟩
    exact ⟨htotals, hflight, hnv, hcommit, hstartup, hpairs, hdraft, hqueue⟩

/-! ### The published table -/

theorem totalsPublished_data (totals : Vector Totaliser 64) (p : Prepared) (i : Fin 64) :
    (totalsPublished totals p)[i].data = (giveRecords totals p.records)[i].data := by
  unfold totalsPublished
  rw [(clearFlagsOf_spec _ _ i).1, (markAll_spec _ _ i).1]

theorem getElem_set_totaliser (totals : Vector Totaliser 64) (t i : Fin 64) (x : Totaliser) :
    (totals.set t x)[i] = if t = i then x else totals[i] := by
  by_cases h : t = i
  · subst h; simp
  · have hv : (t : Nat) ≠ i := fun e => h (Fin.ext e)
    simp [hv, h]

/-- R33: what is published of a record is one that was given, or what stood. -/
theorem giveRecords_cases (totals : Vector Totaliser 64) (records : List (Fin 64 × Record)) (i : Fin 64) :
    (∃ r, (i, r) ∈ records ∧ (giveRecords totals records)[i].data = r) ∨
      (giveRecords totals records)[i].data = totals[i].data := by
  induction records generalizing totals with
  | nil => exact .inr rfl
  | cons x rest ih =>
    rcases ih (totals.set x.1 { totals[x.1] with data := x.2 }) with ⟨r, hr, e⟩ | e
    · exact .inl ⟨r, List.mem_cons_of_mem _ hr, e⟩
    · rw [getElem_set_totaliser] at e
      split at e
      · next ht => subst ht; exact .inl ⟨x.2, List.mem_cons_self, e⟩
      · exact .inr e

theorem totalsPublished_cases (totals : Vector Totaliser 64) (p : Prepared) (i : Fin 64) :
    (∃ r, (i, r) ∈ p.records ∧ (totalsPublished totals p)[i].data = r) ∨
      (totalsPublished totals p)[i].data = totals[i].data := by
  rw [totalsPublished_data]
  exact giveRecords_cases totals p.records i

theorem restoreTotaliser_lawful {nv : NvArray} (h : nv.Keeps recordsStored) (k : Word) (t : Fin 64) :
    (restoreTotaliser k nv.home[t]).data.Lawful := by
  unfold restoreTotaliser
  dsimp only
  cases hload : nv.home[t].load k with
  | none => exact Record.lost_lawful
  | some r =>
    obtain ⟨c, hc⟩ := Pair.mem_load hload
    exact h.home t c r hc

/-! ### Every move -/

namespace State.TotalsKept
variable {s t : State}

theorem of_eq (h : s.TotalsKept) (htotals : t.totals = s.totals) (hflight : t.engine.inFlight = s.engine.inFlight)
    (hpairs : t.operand.pairs = s.operand.pairs) (hdraft : t.draft = s.draft) (hqueue : t.queue.items = s.queue.items) :
    t.TotalsKept := by
  obtain ⟨ha, hb, hc, hd, he⟩ := h
  refine ⟨?_, by rwa [hflight], ?_, by rwa [hdraft], by rwa [hqueue]⟩
  · unfold State.TotalsLawful; rwa [htotals]
  · unfold OperandBuffer.PairsLegal; rwa [hpairs]

/-- A take or a publication: the table, the queue and the flight change, the operand buffer and the draft do not. -/
theorem moved (h : s.TotalsKept) (htotals : t.TotalsLawful)
    (hflight : ∀ f ∈ t.engine.inFlight, ∀ r ∈ f.prepared.records, r.2.Lawful) (hoperand : t.operand = s.operand)
    (hdraft : t.draft = s.draft) (hqueue : ∀ q ∈ t.queue.items, q.draft.body.LimitsFit) : t.TotalsKept :=
  ⟨htotals, hflight, hoperand ▸ h.pairs, hdraft ▸ h.draft, hqueue⟩

theorem reset (s : State) : s.ramCleared.TotalsKept := by
  refine ⟨fun i => ?_, forall_mem_of_none rfl, OperandBuffer.pairsLegal_cleared, forall_mem_of_none rfl,
    forall_mem_of_nil rfl⟩
  have hi : s.ramCleared.totals[i].data = Record.unused := by simp [State.ramCleared, State.cleared]
  rw [hi]
  exact Record.unused_lawful

theorem begun (s : State) : (beginStartup s).TotalsKept := (reset s).of_eq rfl rfl rfl rfl rfl

theorem ended {j : StartupJob} (fault : Bool) (h : s.TotalsKept) (hnv : s.nv.Keeps recordsStored) :
    (endStartup j fault s).TotalsKept := by
  obtain ⟨ev, e⟩ := endStartup_eq j fault s
  have etotals : (endStartup j fault s).totals =
      Vector.ofFn fun t => restoreTotaliser j.control.counter (j.loadedArray fault s.nv).home[t] := by
    simp only [e, loadTables]
  have eflight : (endStartup j fault s).engine.inFlight = s.engine.inFlight := by simp only [e, loadTables]
  have eoperand : (endStartup j fault s).operand = s.operand := by simp only [e, loadTables]
  have edraft : (endStartup j fault s).draft = s.draft := by simp only [e, loadTables]
  have equeue : (endStartup j fault s).queue = s.queue := by simp only [e, loadTables]
  refine h.moved (fun i => ?_) (eflight ▸ h.flight) eoperand edraft (equeue ▸ h.queue)
  rw [etotals]
  simp only [Fin.getElem_fin, Vector.getElem_ofFn]
  exact restoreTotaliser_lawful (hnv.loadedArray j fault) _ i

theorem emergencyStepped (h : s.TotalsKept) : s.emergencyStepped.TotalsKept := by
  rcases emergencyStepped_cases s with ⟨-, -, e⟩ | e <;> rw [e]
  · refine h.moved h.totals (fun f hf => ?_) rfl rfl h.queue
    cases hf
    exact prepareEmergency_records_lawful h.totals
  · exact h.of_eq rfl rfl rfl rfl rfl

theorem headTaken (h : s.TotalsKept) {q : QueueItem} {rest : List QueueItem} (hitems : s.queue.items = q :: rest) :
    (takeHead q s).TotalsKept := by
  have hqueue := h.queue
  rw [hitems] at hqueue
  have hq := hqueue q List.mem_cons_self
  have hrecords := prepareItem_records_lawful h.totals hq
  rw [takeHead_eq hitems]
  refine h.moved h.totals (fun f hf => ?_) rfl rfl fun x hx => ?_
  · cases hf; exact hrecords
  · rcases List.mem_cons.1 hx with rfl | hx
    exacts [hq, hqueue x (List.mem_cons_of_mem _ hx)]

theorem foldTaken (h : s.TotalsKept) (k : Fin 8) : (takeFold k s).TotalsKept := by
  rw [takeFold_eq]
  refine h.moved h.totals (fun f hf => ?_) rfl rfl h.queue
  cases hf
  exact prepareFold_records_lawful h.totals k

theorem published (h : s.TotalsKept) {f : InFlight} (hflight : s.engine.inFlight = some f) (k : Commit) :
    (publishedState f k s).TotalsKept := by
  have htotals : ∀ i : Fin 64, (totalsPublished s.totals f.prepared)[i].data.Lawful := fun i => by
    rcases totalsPublished_cases s.totals f.prepared i with ⟨r, hr, e⟩ | e <;> rw [e]
    exacts [h.flight f hflight _ hr, h.totals i]
  have hqueue : ∀ q ∈ (queuePublished s.queue f.item).items, q.draft.body.LimitsFit := by
    cases f.item
    · exact fun q hq => h.queue q (List.mem_of_mem_tail hq)
    · exact h.queue
    · exact h.queue
  rw [publishedState_eq]
  exact h.moved htotals (forall_mem_of_none rfl) rfl rfl hqueue

theorem submitted (h : s.TotalsKept) {d : Draft} (n : Word) (hdraft : s.draft = some d) :
    (acceptDraft d n s).TotalsKept := by
  refine ⟨h.totals, h.flight, h.pairs, forall_mem_of_none rfl, fun q hq => ?_⟩
  rcases List.mem_append.1 hq with hq | hq
  · exact h.queue q hq
  · rw [List.mem_singleton.1 hq]; exact h.draft d hdraft

theorem acknowledged (h : s.TotalsKept) (i : Fin 64) :
    ({ s with totals := s.totals.set i s.totals[i].unmarked } : State).TotalsKept := by
  refine h.moved (fun k => ?_) h.flight rfl rfl h.queue
  show (s.totals.set i s.totals[i].unmarked)[k].data.Lawful
  rw [getElem_set_totaliser]
  split
  exacts [h.totals i, h.totals k]

end State.TotalsKept

theorem Move.keeps_totalsKept {c : Instr} {s t : State} (hmove : Move c s t) (h : s.TotalsKept)
    (hstores : s.Stores recordsStored) : t.TotalsKept := by
  cases hmove
  case idle | pinned | unpinned | runChanged | cut => exact h.of_eq rfl rfl rfl rfl rfl
  case operandPair data => exact ⟨h.totals, h.flight, h.pairs.write data, h.draft, h.queue⟩
  case opened d hargs =>
    exact ⟨h.totals, h.flight, h.pairs, fun x hx => by cases hx; exact openArguments_limits hargs, h.queue⟩
  case legAdded => exact ⟨h.totals, h.flight, h.pairs, fun x hx => by cases hx; trivial, h.queue⟩
  case fieldSet d b hdraft hfield =>
    exact ⟨h.totals, h.flight, h.pairs,
      fun x hx => by cases hx; exact fieldOn_limits h.pairs (h.draft d hdraft) hfield, h.queue⟩
  case discarded => exact ⟨h.totals, h.flight, h.pairs, forall_mem_of_none rfl, h.queue⟩
  case submitted d n hdraft _ _ _ => exact h.submitted n hdraft
  case cancelled q p =>
    obtain ⟨ev, lock, e⟩ := freeLock_removeItems_eq q (s.queue.items.eraseP p) s
    rw [e]
    exact h.moved h.totals h.flight rfl rfl fun x hx => h.queue x (List.mem_of_mem_eraseP hx)
  case acknowledged i => exact h.acknowledged i
  case popped e rest hentries =>
    rcases endHeld_cases { s with journal := { s.journal with head := s.journal.head + 1, entries := rest } } with
      ⟨-, e⟩ | e <;> rw [e] <;> exact h.of_eq rfl rfl rfl rfl rfl
  case restarted => exact .begun s
  case resetHeld => exact .reset _
  case resumed => rcases resumeStartup_cases s with ⟨-, e⟩ | e <;> rw [e] <;> exact h.of_eq rfl rfl rfl rfl rfl
  case powerFailed =>
    rcases takePowerFail_cases s with ⟨-, e⟩ | ⟨-, -, e⟩ | ⟨-, -, e⟩ <;> rw [e]
    · exact h.of_eq rfl rfl rfl rfl rfl
    · exact h.of_eq rfl rfl rfl rfl rfl
    · refine State.TotalsKept.emergencyStepped ?_
      exact h.of_eq rfl rfl rfl rfl rfl
  case startupWrite j hstartup matched =>
    have hj := hstores.startup j hstartup
    rcases startupWriteDone_cases matched j s with ⟨-, -, e⟩ | ⟨-, w, rest, -, e⟩ | ⟨-, -, e⟩ | ⟨-, -, e⟩ <;> rw [e]
    · have hk : State.TotalsKept { s with nv := s.nv.write true j.bootWrite } := h.of_eq rfl rfl rfl rfl rfl
      exact hk.ended false (hstores.nv.write true (w := j.bootWrite) trivial)
    · exact h.of_eq rfl rfl rfl rfl rfl
    · have hk : State.TotalsKept { s with nv := s.nv.write false j.underWay } := h.of_eq rfl rfl rfl rfl rfl
      exact hk.ended true (hstores.nv.write false hj.underWay)
    · exact h.of_eq rfl rfl rfl rfl rfl
  case headTaken q hfree hoffers =>
    obtain ⟨rest, hitems⟩ := hoffers.items
    exact h.headTaken hitems
  case foldTaken k _ _ => exact h.foldTaken k
  case advanced k _ => unfold commitAdvance; split <;> exact h.of_eq rfl rfl rfl rfl rfl
  case published k f _ _ _ hflight =>
    have hp := h.published hflight k
    rcases completeCommit_cases k f s with ⟨-, e⟩ | ⟨-, -, e⟩ | ⟨-, -, -, e⟩ | ⟨-, -, -, e⟩ <;> rw [e]
    exacts [hp.of_eq rfl rfl rfl rfl rfl, hp.emergencyStepped, .begun _, hp]
  case failed k _ =>
    rcases failAttempt_cases k s with ⟨-, e⟩ | ⟨-, ⟨-, e⟩ | ⟨-, -, e⟩ | ⟨-, -, e⟩⟩ <;> rw [e]
    exacts [h.of_eq rfl rfl rfl rfl rfl, h.of_eq rfl rfl rfl rfl rfl, h.of_eq rfl rfl rfl rfl rfl, .begun _]

theorem Move.keeps_totalsLaw {c : Instr} {s t : State} (hmove : Move c s t) (h : TotalsLaw s) : TotalsLaw t := by
  rw [totalsLaw_iff] at h ⊢
  obtain ⟨hkept, hstores⟩ := h
  have ht := hmove.keeps_totalsKept hkept hstores
  exact ⟨ht, hmove.keeps_stores hstores fun f hf => ⟨ht.flight f hf, trivial, fun _ _ => trivial⟩⟩

/-- Settles O54, move by move: each record by `TotalsKept`, those on their way to the array by what is stored. -/
theorem totalsLawKept : Obligations.TotalsLawKept := fun _ _ hs hstep =>
  step_keeps TotalsLaw.congr (Q := fun _ => True) (fun _ _ => trivial) (fun hm _ => hm.keeps_totalsLaw) trivial hs hstep

end Sys2Proof.Machine
end

section
/-! PROOFS. MONOTONIC totalisers (R19): a change that passes raises the value or wraps it, and so do the legs of a posting
and the folds of a take, until the publication gives what they left. -/

namespace Sys2Proof.Machine

/-! ### One change (R19, R26 to R32) -/

/-- R19: a change that passes on a MONOTONIC record raises its value or is a wrap. -/
theorem Record.Lawful.rises {r : Record} (h : r.Lawful) (hkind : r.kind = .monotonic) {c : Change} {a : Applied}
    (ha : applyChange r c = .ok a) : r.value ≤ a.value ∨ a.mark = .wrapped := by
  obtain ⟨hlower, hupper, -, -⟩ := h.admits
  obtain ⟨-, e⟩ | ⟨-, -, e⟩ | ⟨hadmits, hdirection, e⟩ := applyChange_cases r c
  · cases e.symm.trans ha
  · cases e.symm.trans ha
  · have hup : r.value ≤ (candidate r c).1 := by
      cases c with
      | delta d => exact value_le_candidate_delta r (by simpa [directionAdmits, hkind] using hdirection)
      | set d => simp [kindAdmits, hkind] at hadmits
      | clear => simp [kindAdmits, hkind] at hadmits
    rw [e] at ha
    obtain ⟨-, -, e⟩ | ⟨-, e⟩ | ⟨-, -, e⟩ | ⟨-, hbelow, e⟩ | ⟨-, -, e⟩ := bounded_cases r (candidate r c) <;>
      cases e.symm.trans ha
    · exact .inl hup
    · exact .inl hupper
    · exact absurd (hlower.trans hup) (not_le.2 hbelow)
    · exact .inr rfl

/-! ### Working copies (R96, R172) -/

/-- R19: a MONOTONIC record keeps its kind, and rises or is wrapped by one of the effects. -/
def RisesTo (w w' : Working) (effects : List Effect) : Prop :=
  ∀ t : Fin 64, w[t].kind = .monotonic →
    w'[t].kind = .monotonic ∧ (w[t].value ≤ w'[t].value ∨ ∃ e ∈ effects, e.target = t ∧ e.mark = .wrapped)

theorem RisesTo.refl (w : Working) (effects : List Effect) : RisesTo w w effects := fun _ hk => ⟨hk, .inl le_rfl⟩

theorem RisesTo.cons {w w' w'' : Working} {e : Effect} {effects : List Effect} (h : RisesTo w w' [e])
    (h' : RisesTo w' w'' effects) : RisesTo w w'' (e :: effects) := by
  intro t hk
  obtain ⟨hk', hrise⟩ := h t hk
  obtain ⟨hk'', hrise'⟩ := h' t hk'
  refine ⟨hk'', ?_⟩
  rcases hrise with hle | ⟨x, hx, hwrap⟩
  · rcases hrise' with hle' | ⟨x, hx, hwrap⟩
    · exact .inl (hle.trans hle')
    · exact .inr ⟨x, List.mem_cons_of_mem _ hx, hwrap⟩
  · rw [List.mem_singleton.1 hx] at hwrap
    exact .inr ⟨e, List.mem_cons_self, hwrap⟩

theorem risesTo_skipped (w : Working) (t : Fin 64) (r : Record) :
    RisesTo w (takeEffect w (skippedEffect t r)) [skippedEffect t r] := by
  have hsame : takeEffect w (skippedEffect t r) = w := if_pos rfl
  rw [hsame]
  exact .refl _ _

theorem risesTo_applied {w : Working} (hw : w.Lawful) {t : Fin 64} {c : Change} {a : Applied}
    (ha : applyChange w[t] c = .ok a) : RisesTo w (takeEffect w (a.effect t w[t])) [a.effect t w[t]] := by
  intro u hk
  rw [takeEffect_getElem]
  split
  · next hx =>
    obtain ⟨rfl, -⟩ := hx
    refine ⟨hk, ?_⟩
    rcases (hw _).rises hk ha with hle | hwrap
    · exact .inl hle
    · exact .inr ⟨_, List.mem_singleton_self _, rfl, hwrap⟩
  · exact ⟨hk, .inl le_rfl⟩

/-- R19, R96: the legs of a posting in order. -/
theorem risesTo_evalLegs {bank : Bank} {mode : GuardMode} {legs : List Leg} {i : Nat} {w w' : Working}
    {xs : List LegResult} (hw : w.Lawful) (h : evalLegs bank mode i w legs = .ok (xs, w')) :
    RisesTo w w' (xs.map LegResult.effect) := by
  induction legs generalizing i w xs with
  | nil => cases h; exact .refl _ _
  | cons l rest ih =>
    cases hx : evalLeg bank mode w l with
    | error r => simp [evalLegs, hx] at h
    | ok x =>
      cases hrest : evalLegs bank mode (i + 1) (takeEffect w x.effect) rest with
      | error e => simp [evalLegs, hx, hrest] at h
      | ok y =>
        obtain ⟨ys, w''⟩ := y
        simp only [evalLegs, hx, hrest, Except.ok.injEq, Prod.mk.injEq] at h
        obtain ⟨rfl, rfl⟩ := h
        refine RisesTo.cons ?_ (ih (hw.takeEffect (evalLeg_fits hw hx)) hrest)
        rcases evalLeg_cases hx with e | ⟨a, ha, e⟩ <;> rw [e]
        exacts [risesTo_skipped w _ _, risesTo_applied hw ha]

/-- R19, R172: the covered channels in order. -/
theorem risesTo_evalAllCovered (channels : Vector Channel 8) (cs : List (Fin 8)) {w : Working} (hw : w.Lawful) :
    RisesTo w (evalAllCovered channels w cs).2 ((evalAllCovered channels w cs).1.map CoveredResult.effect) := by
  induction cs generalizing w with
  | nil => exact .refl _ _
  | cons c rest ih =>
    refine RisesTo.cons ?_ (ih (hw.takeEffect (evalCovered_fits channels hw c)))
    rcases evalCovered_cases channels w c with ⟨reason, -, e⟩ | ⟨a, ha, e⟩ <;> rw [e]
    exacts [risesTo_skipped w _ _, risesTo_applied hw (evalFold_ok ha)]

/-! ### What a take puts in flight -/

/-- R19: what was prepared lowers no MONOTONIC record but by a wrap or a CONFIGURE_TOTALISER. -/
def Prepared.Rises (p : Prepared) (totals : Vector Totaliser 64) : Prop :=
  p.entry.source ≠ .configureTotaliser → ∀ x ∈ p.records, totals[x.1].data.kind = .monotonic →
    x.2.kind = .monotonic ∧
    (totals[x.1].data.value ≤ x.2.value ∨ ∃ e ∈ p.entry.effects, e.target = x.1 ∧ e.mark = .wrapped)

theorem Prepared.rises_of_no_records {p : Prepared} (h : p.records = []) (totals : Vector Totaliser 64) :
    p.Rises totals := fun _ x hx => by rw [h] at hx; exact (List.not_mem_nil hx).elim

theorem RisesTo.given {s : State} {w : Working} {effects : List Effect} (h : RisesTo s.working w effects) {n : Word}
    {x : Fin 64 × Record} (hx : x ∈ givenRecords n effects w) (hkind : s.totals[x.1].data.kind = .monotonic) :
    x.2.kind = .monotonic ∧
      (s.totals[x.1].data.value ≤ x.2.value ∨ ∃ e ∈ effects, e.target = x.1 ∧ e.mark = .wrapped) := by
  have hr := h x.1
  rw [working_getElem] at hr
  rw [(mem_givenRecords.1 hx).2]
  exact hr hkind

theorem prepareItem_rises {s : State} (h : s.TotalsLawful) (q : QueueItem) : (prepareItem s q).Rises s.totals := by
  unfold prepareItem
  split
  · unfold preparePosting
    dsimp only
    split
    · exact Prepared.rises_of_no_records rfl _
    · split
      · exact Prepared.rises_of_no_records rfl _
      · next hlegs => exact fun _ x hx hk => (risesTo_evalLegs h.working hlegs).given hx hk
  · unfold prepareConfigureTotaliser
    dsimp only
    split
    · exact Prepared.rises_of_no_records rfl _
    · exact fun hsource => absurd rfl hsource
  · unfold prepareConfigureChannel; dsimp only; split <;> exact Prepared.rises_of_no_records rfl _
  · exact Prepared.rises_of_no_records rfl _
  · unfold prepareCheckpoint; dsimp only; split <;> exact Prepared.rises_of_no_records rfl _

theorem prepareFold_rises {s : State} (h : s.TotalsLawful) (c : Fin 8) : (prepareFold s c).Rises s.totals := by
  unfold prepareFold
  dsimp only
  split
  · exact Prepared.rises_of_no_records rfl _
  · next a ha =>
    intro _ x hx hk
    rw [List.mem_singleton.1 hx] at hk ⊢
    refine ⟨hk, ?_⟩
    rcases (h _).rises hk (evalFold_ok ha) with hle | hwrap
    · exact .inl hle
    · exact .inr ⟨_, List.mem_singleton_self _, rfl, hwrap⟩

theorem prepareEmergency_rises {s : State} (h : s.TotalsLawful) : (prepareEmergency s).Rises s.totals := by
  unfold prepareEmergency
  dsimp only
  split
  · exact fun _ x hx hk => (risesTo_evalAllCovered s.channels s.covered h.working).given hx hk
  · exact Prepared.rises_of_no_records rfl _

/-! ### Every move -/

theorem risesLaw_iff (s : State) : RisesLaw s ↔ ∀ f ∈ s.engine.inFlight, f.prepared.Rises s.totals := Iff.rfl

theorem RisesLaw.of_eq {s t : State} (h : RisesLaw s) (hflight : t.engine.inFlight = s.engine.inFlight)
    (htotals : t.totals = s.totals) : RisesLaw t := by
  rw [risesLaw_iff] at h ⊢
  rwa [hflight, htotals]

theorem risesLaw_of_no_flight {s : State} (h : s.engine.inFlight = none) : RisesLaw s := forall_mem_of_none h

theorem risesLaw_taken {s t : State} {item : FlightItem} {p : Prepared} (hp : p.Rises s.totals)
    (hflight : t.engine.inFlight = some { item := item, prepared := p }) (htotals : t.totals = s.totals) :
    RisesLaw t := by
  rw [risesLaw_iff, htotals]
  intro f hf
  cases hflight.symm.trans hf
  exact hp

theorem RisesLaw.emergencyStepped {s : State} (h : RisesLaw s) (htotals : s.TotalsLawful) :
    RisesLaw s.emergencyStepped := by
  rcases emergencyStepped_cases s with ⟨-, -, e⟩ | e <;> rw [e]
  exacts [risesLaw_taken (prepareEmergency_rises htotals) rfl rfl, h.of_eq rfl rfl]

/-- R35: the flags cleared leave the records. -/
theorem RisesLaw.acknowledged {s : State} (h : RisesLaw s) (i : Fin 64) :
    RisesLaw { s with totals := s.totals.set i s.totals[i].unmarked } := by
  have hdata (k : Fin 64) : (s.totals.set i s.totals[i].unmarked)[k].data = s.totals[k].data := by
    rw [getElem_set_totaliser]
    split
    · next e => subst e; rfl
    · rfl
  intro f hf hsource x hx hkind
  rw [hdata] at hkind ⊢
  exact h f hf hsource x hx hkind

theorem Move.keeps_risesLaw {c : Instr} {s t : State} (hmove : Move c s t) (hphase : PhaseLaw s) (hkept : s.TotalsKept)
    (h : RisesLaw s) : RisesLaw t := by
  cases hmove
  case idle | operandPair | opened | legAdded | fieldSet | discarded | submitted | pinned | unpinned | runChanged
    | cut => exact h.of_eq rfl rfl
  case acknowledged i => exact h.acknowledged i
  case cancelled q p =>
    obtain ⟨ev, lock, e⟩ := freeLock_removeItems_eq q (s.queue.items.eraseP p) s
    rw [e]
    exact h.of_eq rfl rfl
  case popped e rest hentries =>
    rcases endHeld_cases { s with journal := { s.journal with head := s.journal.head + 1, entries := rest } } with
      ⟨-, e⟩ | e <;> rw [e] <;> exact h.of_eq rfl rfl
  case restarted | resetHeld => exact risesLaw_of_no_flight rfl
  case resumed => rcases resumeStartup_cases s with ⟨-, e⟩ | e <;> rw [e] <;> exact h.of_eq rfl rfl
  case powerFailed =>
    rcases takePowerFail_cases s with ⟨-, e⟩ | ⟨-, -, e⟩ | ⟨-, -, e⟩ <;> rw [e]
    · exact h.of_eq rfl rfl
    · exact h.of_eq rfl rfl
    · refine RisesLaw.emergencyStepped (h.of_eq rfl rfl) ?_
      exact hkept.totals
  case startupWrite j hstartup matched =>
    have hnone := hphase.flight_of_startup hstartup
    have hended (fault : Bool) (nv : NvArray) : RisesLaw (endStartup j fault { s with nv := nv }) := by
      obtain ⟨ev, e⟩ := endStartup_eq j fault { s with nv := nv }
      rw [e]
      exact risesLaw_of_no_flight hnone
    rcases startupWriteDone_cases matched j s with ⟨-, -, e⟩ | ⟨-, w, rest, -, e⟩ | ⟨-, -, e⟩ | ⟨-, -, e⟩ <;> rw [e]
    exacts [hended false _, h.of_eq rfl rfl, hended true _, h.of_eq rfl rfl]
  case headTaken q hfree hoffers =>
    obtain ⟨rest, hitems⟩ := hoffers.items
    exact risesLaw_taken (prepareItem_rises hkept.totals q) (by rw [takeHead_eq hitems]) (by rw [takeHead_eq hitems])
  case foldTaken k _ _ =>
    exact risesLaw_taken (prepareFold_rises hkept.totals k) (by rw [takeFold_eq]) (by rw [takeFold_eq])
  case advanced k _ => unfold commitAdvance; split <;> exact h.of_eq rfl rfl
  case published k f _ _ _ hflight =>
    have hp : RisesLaw (publishedState f k s) := risesLaw_of_no_flight (publishedState_flight f k s)
    rcases completeCommit_cases k f s with ⟨-, e⟩ | ⟨-, -, e⟩ | ⟨-, -, -, e⟩ | ⟨-, -, -, e⟩ <;> rw [e]
    exacts [hp.of_eq rfl rfl, hp.emergencyStepped (hkept.published hflight k).totals, risesLaw_of_no_flight rfl, hp]
  case failed k _ =>
    rcases failAttempt_cases k s with ⟨-, e⟩ | ⟨-, ⟨-, e⟩ | ⟨-, -, e⟩ | ⟨-, -, e⟩⟩ <;> rw [e]
    exacts [h.of_eq rfl rfl, h.of_eq rfl rfl, h.of_eq rfl rfl, risesLaw_of_no_flight rfl]

/-! ### What a step may do to a published MONOTONIC totaliser -/

theorem emergencyStepped_totals (s : State) : s.emergencyStepped.totals = s.totals := by
  rcases emergencyStepped_cases s with ⟨-, -, e⟩ | e <;> rw [e] <;> rfl

/-- R33, R107: a commit completion that does not end in start-up leaves the totals it publishes. -/
theorem completeCommit_totals {k : Commit} {f : InFlight} {s : State}
    (h : (completeCommit k f s).device ≠ .starting) :
    (completeCommit k f s).totals = totalsPublished s.totals f.prepared := by
  have hp : (publishedState f k s).totals = totalsPublished s.totals f.prepared := by rw [publishedState_eq]
  rcases completeCommit_cases k f s with ⟨-, e⟩ | ⟨-, -, e⟩ | ⟨-, -, -, e⟩ | ⟨-, -, -, e⟩ <;> rw [e] at h ⊢
  exacts [hp, (emergencyStepped_totals _).trans hp, absurd rfl h, hp]

/-- R19: a move keeps or raises the published value of a MONOTONIC totaliser, or publishes a wrap or a
CONFIGURE_TOTALISER of it. -/
theorem Move.monotonic {c : Instr} {s t : State} (hmove : Move c s t) (hphase : PhaseLaw s) (h : RisesLaw s)
    (hs : s.device ≠ .starting) (ht : t.device ≠ .starting) {i : Fin 64} (hkind : s.totals[i].data.kind = .monotonic) :
    (t.totals[i].data.kind = .monotonic ∧ s.totals[i].data.value ≤ t.totals[i].data.value) ∨
    c = .commitCompletion ∧ ∃ f r, s.engine.inFlight = some f ∧ (i, r) ∈ f.prepared.records ∧
      (f.prepared.entry.source = .configureTotaliser ∨
        ∃ e ∈ f.prepared.entry.effects, e.target = i ∧ e.mark = .wrapped) := by
  rcases hmove.samePublished_or_published hphase hs ht with ⟨hdata, -⟩ | ⟨hc, k, f, hflight, rfl⟩
  · rw [hdata]
    exact .inl ⟨hkind, le_rfl⟩
  · rw [completeCommit_totals ht]
    rcases totalsPublished_cases s.totals f.prepared i with ⟨r, hr, e⟩ | e <;> rw [e]
    · by_cases hsource : f.prepared.entry.source = .configureTotaliser
      · exact .inr ⟨hc, f, r, hflight, hr, .inl hsource⟩
      · obtain ⟨hk, hle | hwrap⟩ := h f hflight hsource (i, r) hr hkind
        · exact .inl ⟨hk, hle⟩
        · exact .inr ⟨hc, f, r, hflight, hr, .inr hwrap⟩
    · exact .inl ⟨hkind, le_rfl⟩

/-- Settles O59, move by move. -/
theorem monotonicNeverLowered : Obligations.MonotonicNeverLowered := by
  intro s t hphase htotals hrises hstep
  obtain ⟨-, rfl⟩ | ⟨c, rest, hpending, u, hu, v, hmove, hv⟩ := step_cases hstep
  · exact ⟨hrises, fun i _ _ hk => .inl ⟨hk, le_rfl⟩⟩
  have hphase := PhaseLaw.congr hu.symm hphase
  have hkept := ((totalsLaw_iff u).1 (TotalsLaw.congr hu.symm htotals)).1
  have hrises := RisesLaw.congr hu.symm hrises
  refine ⟨RisesLaw.congr hv (hmove.keeps_risesLaw hphase hkept hrises), fun i hs ht hkind => ?_⟩
  have hus : u.device = s.device := (congrArg State.device hu :)
  have hvt : v.device = t.device := (congrArg State.device hv :)
  have htot : u.totals = s.totals := (congrArg State.totals hu :)
  have htot' : v.totals = t.totals := (congrArg State.totals hv :)
  have hflight : u.engine.inFlight = s.engine.inFlight := (congrArg (fun x => x.engine.inFlight) hu :)
  rw [← htot] at hkind
  have := hmove.monotonic hphase hrises (hus ▸ hs) (hvt ▸ ht) hkind
  rw [htot, htot', hflight] at this
  rcases this with hsame | ⟨rfl, f, r, hf, hr, hx⟩
  · exact .inl hsame
  · exact .inr ⟨rest, f, r, hpending, hf, hr, hx⟩

end Sys2Proof.Machine
end

section
/-! PROOFS. What is published and what the array holds (R104, R107, R166): the law is not kept from every state that meets
it. Its clause about what is published is asked outside STARTING alone, and nothing that the law asks of a state forbids a
commit under way while the device state is STARTING and start-up is over. The failure of that commit ends in HALTED, where
the clause is asked of tables that never had to agree with the array. -/

namespace Sys2Proof.Machine

/-- What an item that changes nothing but the journal prepares on the state after reset. -/
def strandedPrepared : Prepared := State.reset.prepare (State.reset.blankEntry .posting)

/-- Its commit at the first step of the second attempt. -/
def strandedCommit : Commit := { State.reset.firstAttempt strandedPrepared with second := true }

/-- The state after reset with no start-up under way and that commit in its place: STARTING, the completion counter 0
while the control block of the array counts from 1. -/
def stranded : State :=
  { State.reset with
    startup := none
    engine := { State.reset.engine with
      state := .persisting, inFlight := some { item := .fold 0, prepared := strandedPrepared } }
    commit := some strandedCommit
    pending := [.attemptFailure] }

theorem phaseLaw_stranded : PhaseLaw stranded := phaseLaw_of_startup rfl

theorem spans_of_counters {b : ControlBlock} {counter head : Word} (hc : b.counter = counter) (hh : b.head = head)
    (h : (counter - head).toNat ≤ Config.journalCapacity) : b.Spans := by
  unfold ControlBlock.Spans
  rwa [hc, hh]

theorem journalLaw_stranded : JournalLaw stranded := by
  have hspans : strandedPrepared.control.Spans := spans_of_counters (counter := 1) (head := 0) rfl rfl (by decide)
  rw [journalLaw_iff]
  refine ⟨Journal.lawful_empty, nofun, fun f hf => ?_, keeps_formatted, fun k hk => ?_, nofun⟩
  · cases hf
    exact ⟨rfl, Nat.zero_le _, hspans⟩
  · cases hk
    exact ⟨⟨fun w _ => w.keeps_spans, hspans⟩, fun w _ => w.keeps_spans⟩

theorem slotLaw_stranded : SlotLaw stranded := by
  refine slotLaw_of_no_capture (fun i hp => ?_) fun f hf => ?_
  · simp [stranded, State.reset, State.cleared] at hp
  · cases hf; rfl

theorem commitMatches_stranded : CommitMatches stranded := by
  intro k hk
  cases hk
  exact ⟨_, rfl, rfl, List.nodup_nil, ⟨rfl, rfl, rfl, fun _ => rfl, fun _ => rfl⟩, [], rfl, fun h => absurd rfl h.1⟩

/-- The second failure of the commit ends in HALTED. -/
theorem step_stranded : step stranded = .next (failAttempt strandedCommit { stranded with pending := [] }) := rfl

/-- In HALTED the current control block counts from 1 and the completion counter published is 0. -/
theorem not_persisted_stranded :
    ¬ PublishedIsPersisted (failAttempt strandedCommit { stranded with pending := [] }) := by
  intro h
  obtain ⟨-, -, -, ⟨b, hb, hcounter, -⟩, -⟩ := h nofun rfl
  cases hb
  exact absurd hcounter (by decide)

/-- Refutes O58: an ATTEMPT_FAILURE in `stranded`, which meets every hypothesis, ends in HALTED with the current control
block at counter 1 and the published completion counter at 0. -/
theorem not_publishedStaysPersisted : ¬ Obligations.PublishedStaysPersisted := by
  intro h
  obtain ⟨-, -, hpersisted⟩ := h stranded _ phaseLaw_stranded journalLaw_stranded slotLaw_stranded
    commitMatches_stranded nofun (fun hd => absurd rfl hd) step_stranded
  exact not_persisted_stranded hpersisted

end Sys2Proof.Machine
end

section
/-! PROOFS. OPEN and LEG (R57 to R62): what their arguments describe, and each command by its tests in order. -/

namespace Sys2Proof.Machine

/-! ### A command past its device-state test (R188, R189) -/

/-- A command with its code shown and the operand series ended where the command ends it. -/
def State.shown (s : State) (code : Byte) (ends : Bool) : State :=
  { s with command := code, operand := if ends then endSeries s.operand else s.operand }

section
variable {s : State} {code : Byte} {ends : Bool} {run : State → State × ResultCode} {u : State} {r : ResultCode}

theorem refuse_replied (r : ResultCode) (s : State) (code : Byte) (ends : Bool) :
    { s.shown code ends with result := r } = s.replied code ends r := by cases ends <;> rfl

theorem takesWork_eq (h : s.TakesWork) (hrun : run (s.shown code ends) = (u, r)) :
    takeCommand code ends (whenReady run) s = .next { u with result := r } := by
  rw [takesWork_run h, show run { s with command := code, operand := _ } = (u, r) from hrun]

theorem takesWork_refused (h : s.TakesWork) (hrun : run (s.shown code ends) = (s.shown code ends, r)) :
    takeCommand code ends (whenReady run) s = .next (s.replied code ends r) := by
  rw [takesWork_eq h hrun, refuse_replied]

end

/-! ### Codes as arguments (R61, R64, R65) -/

@[simp] theorem legOpArg_code (op : LegOp) : legOpArg op.code = some op := by cases op <;> rfl
@[simp] theorem relationArg_code (r : Relation) : relationArg r.code = some r := by cases r <;> rfl
@[simp] theorem guardModeArg_code (m : GuardMode) : guardModeArg m.code = some m := by cases m <;> rfl
@[simp] theorem kindArg_code (k : Kind) : kindArg k.code = some k := by cases k <;> rfl
@[simp] theorem roundingArg_code (r : Rounding) : roundingArg r.code = some r := by cases r <;> rfl
@[simp] theorem policyArg_code (p : Policy) : policyArg p.code = some p := by cases p <;> rfl
@[simp] theorem edgeArg_code (e : EdgeSelect) : edgeArg e.code = some e := by cases e <;> rfl
@[simp] theorem directionArg_code (d : Direction) : directionArg d.code = some d := by cases d <;> rfl

theorem Byte.eq_ofNat_iff {b : Byte} {n : Nat} (hn : n < 256) : b = BitVec.ofNat 8 n ↔ b.toNat = n := by
  rw [← BitVec.toNat_inj, BitVec.toNat_ofNat, Nat.mod_eq_of_lt hn]

theorem guardModeArg_eq_none {b : Byte} : guardModeArg b = none ↔ 1 < b.toNat := by revert b; decide
theorem kindArg_eq_none {b : Byte} : kindArg b = none ↔ 2 < b.toNat := by revert b; decide
theorem roundingArg_eq_none {b : Byte} : roundingArg b = none ↔ 3 < b.toNat := by revert b; decide
theorem policyArg_eq_none {b : Byte} : policyArg b = none ↔ 2 < b.toNat := by revert b; decide
theorem edgeArg_eq_none {b : Byte} : edgeArg b = none ↔ 2 < b.toNat := by revert b; decide
theorem directionArg_eq_none {b : Byte} : directionArg b = none ↔ 1 < b.toNat := by revert b; decide
theorem legOpArg_eq_none {b : Byte} : legOpArg b = none ↔ 3 < b.toNat := by revert b; decide
theorem legOpArg_clear {b : Byte} : legOpArg b = some .clear ↔ b.toNat = 3 := by revert b; decide
theorem relationArg_eq_none {b : Byte} : relationArg b = none ↔ 5 < b.toNat := by revert b; decide

theorem boundedArg_eq_none {max : Nat} {b : Byte} : boundedArg max b = none ↔ max < b.toNat := by simp [boundedArg]
theorem boundedArg_of_le {max : Nat} {b : Byte} (h : b.toNat ≤ max) : boundedArg max b = some b.toNat := if_pos h

theorem optionalArg_eq_none {n : Nat} {b : Byte} : optionalArg n b = none ↔ n ≤ b.toNat ∧ b.toNat ≠ 255 := by
  unfold optionalArg
  split
  · next h => simp [h]
  · next h =>
    have hne : b.toNat ≠ 255 := fun e => h ((Byte.eq_ofNat_iff (by decide)).2 e)
    rw [Option.map_eq_none_iff, indexArg_eq_none]
    exact (and_iff_left hne).symm

theorem optionalArg_eq_absent {n : Nat} {b : Byte} : optionalArg n b = some none ↔ b.toNat = 255 := by
  unfold optionalArg
  split
  · next h => simp [h]
  · next h =>
    have hne : b.toNat ≠ 255 := fun e => h ((Byte.eq_ofNat_iff (by decide)).2 e)
    simp [hne]

/-! ### OPEN (R58, R59) -/

theorem exec_open (s : State) : exec .openDraft s = takeCommand 0x01 true (whenReady openRun) s := rfl

theorem openRun_of_open {s : State} {d : Draft} (h : s.draft = some d) : openRun s = (s, .wrongState) := by
  simp [openRun, h, refuse]

theorem openRun_of_misnamed {s : State} (hempty : s.draft = none) (h : openArguments s.args = none) :
    openRun s = (s, .badArgument) := by
  simp [openRun, hempty, h, refuse]

theorem openRun_of_protected {s : State} {d : Draft} (hempty : s.draft = none) (h : openArguments s.args = some d)
    (hbody : d.body.isConfiguration = true) (hcfgen : s.cfgen = false) : openRun s = (s, .protected_) := by
  simp [openRun, hempty, h, hbody, hcfgen, refuse]

theorem openRun_of_named {s : State} {d : Draft} (hempty : s.draft = none) (h : openArguments s.args = some d)
    (hallowed : d.body.isConfiguration = true → s.cfgen = true) : openRun s = ({ s with draft := some d }, .ok) := by
  have : (d.body.isConfiguration && !s.cfgen) = false := by
    cases hb : d.body.isConfiguration
    · rfl
    · rw [hallowed hb]; rfl
  simp [openRun, hempty, h, this]

/-- R58, R59: the argument sets that name no draft. -/
theorem openArguments_eq_none {args : Vector Byte 12}
    (h : 4 < args[0].toNat ∨ (args[0] = 0#8 ∧ 1 < args[5].toNat) ∨ (args[0] = 1#8 ∧ 63 < args[6].toNat) ∨
      (args[0] = 2#8 ∧ 7 < args[6].toNat)) : openArguments args = none := by
  rcases h with h | ⟨h0, h⟩ | ⟨h0, h⟩ | ⟨h0, h⟩
  · unfold openArguments
    dsimp only
    split
    all_goals first | omega | rfl
  · simp [openArguments, h0, guardModeArg_eq_none.2 h]
  · simp [openArguments, h0, indexArg_eq_none (n := 64).2 h]
  · simp [openArguments, h0, indexArg_eq_none (n := 8).2 h]

theorem openArguments_posting {args : Vector Byte 12} {m : GuardMode} (h : args[0] = 0#8) (hm : args[5] = m.code) :
    openArguments args =
      some { tag := Half.ofBytes args[1] args[2], body := .posting (Half.ofBytes args[3] args[4]) m [] } := by
  simp [openArguments, h, hm]

theorem openArguments_configureTotaliser {args : Vector Byte 12} {t : Fin 64} (h : args[0] = 1#8)
    (ht : args[6].toNat = t.val) :
    openArguments args =
      some { tag := Half.ofBytes args[1] args[2], body := .configureTotaliser t TotFields.empty } := by
  simp [openArguments, h, indexArg_of_eq ht]

theorem openArguments_configureChannel {args : Vector Byte 12} {c : Fin 8} (h : args[0] = 2#8)
    (hc : args[6].toNat = c.val) :
    openArguments args =
      some { tag := Half.ofBytes args[1] args[2], body := .configureChannel c ChannelFields.empty } := by
  simp [openArguments, h, indexArg_of_eq hc]

theorem openArguments_switch {args : Vector Byte 12} (h : args[0] = 3#8) :
    openArguments args = some { tag := Half.ofBytes args[1] args[2], body := .switch } := by
  simp [openArguments, h]

theorem openArguments_checkpoint {args : Vector Byte 12} (h : args[0] = 4#8) :
    openArguments args = some { tag := Half.ofBytes args[1] args[2], body := .checkpoint (BitVec.allOnes 64) } := by
  simp [openArguments, h]

/-- Settles O8, by the draft and then by the kind that the arguments name. -/
theorem openMakesDraft : Obligations.OpenMakesDraft := by
  intro s hwork
  simp only [exec_open]
  have named {d : Draft} (hempty : s.draft = none) (hargs : openArguments s.args = some d)
      (hallowed : d.body.isConfiguration = true → s.cfgen = true) :
      takeCommand 0x01 true (whenReady openRun) s = .next ((s.replied 0x01 true .ok).withDraft d.tag d.body) :=
    takesWork_eq hwork (openRun_of_named (s := s.shown 0x01 true) hempty hargs hallowed)
  have forbid {d : Draft} (hempty : s.draft = none) (hargs : openArguments s.args = some d)
      (hbody : d.body.isConfiguration = true) (hcfgen : s.cfgen = false) :
      takeCommand 0x01 true (whenReady openRun) s = .next (s.replied 0x01 true .protected_) :=
    takesWork_refused hwork (openRun_of_protected (s := s.shown 0x01 true) hempty hargs hbody hcfgen)
  refine ⟨fun d hopen => takesWork_refused hwork (openRun_of_open (s := s.shown 0x01 true) hopen), fun hempty => ?_⟩
  refine ⟨fun mode h0 h5 => ?posting, fun t h0 h6 hcfgen => ?totaliser, fun c h0 h6 hcfgen => ?channel, fun h0 => ?switch,
    fun h0 => ?checkpoint, fun hbad => ?misnamed, fun hkind hcfgen => ?forbidden⟩
  case posting => exact named hempty (openArguments_posting h0 h5) nofun
  case totaliser => exact named hempty (openArguments_configureTotaliser h0 h6) fun _ => hcfgen
  case channel => exact named hempty (openArguments_configureChannel h0 h6) fun _ => hcfgen
  case switch => exact named hempty (openArguments_switch h0) nofun
  case checkpoint =>
    have hall (t : Fin 64) : (BitVec.allOnes 64).getLsbD t.val = true := by
      rw [BitVec.getLsbD_allOnes, decide_eq_true t.isLt]
    exact ⟨BitVec.allOnes 64, hall, named hempty (openArguments_checkpoint h0) nofun⟩
  case misnamed =>
    exact takesWork_refused hwork (openRun_of_misnamed (s := s.shown 0x01 true) hempty (openArguments_eq_none hbad))
  case forbidden =>
    rcases hkind with ⟨h0, h6⟩ | ⟨h0, h6⟩
    · have ht : s.args[6].toNat = (⟨s.args[6].toNat, by omega⟩ : Fin 64).val := rfl
      exact forbid hempty (openArguments_configureTotaliser h0 ht) rfl hcfgen
    · have hc : s.args[6].toNat = (⟨s.args[6].toNat, by omega⟩ : Fin 8).val := rfl
      exact forbid hempty (openArguments_configureChannel h0 hc) rfl hcfgen

/-! ### LEG (R60 to R62) -/

theorem exec_leg (s : State) : exec .leg s = takeCommand 0x02 true (whenReady legRun) s := rfl

section
variable {s : State} {tag epoch : Half} {mode : GuardMode} {legs : List Leg}

theorem legRun_of_not_posting
    (h : ∀ tag epoch mode legs, s.draft ≠ some { tag := tag, body := .posting epoch mode legs }) :
    legRun s = (s, .wrongState) := by
  unfold legRun
  split
  · next hdraft => exact absurd hdraft (h _ _ _ _)
  · rfl

theorem legRun_of_misdescribed (hdraft : s.draft = some { tag := tag, body := .posting epoch mode legs })
    (h : legArguments s.args = none) : legRun s = (s, .badArgument) := by
  simp only [legRun, hdraft, h, refuse]

theorem legRun_of_full (hdraft : s.draft = some { tag := tag, body := .posting epoch mode legs })
    (h : legArguments s.args ≠ none) (hfull : 8 ≤ legs.length) : legRun s = (s, .legLimit) := by
  obtain ⟨x, hx⟩ := Option.ne_none_iff_exists'.1 h
  simp only [legRun, hdraft, hx, refuse, Config.draftLegs, hfull, if_true]

theorem legRun_of_incomplete (hdraft : s.draft = some { tag := tag, body := .posting epoch mode legs }) {l : Leg}
    {source : SourceArg} (h : legArguments s.args = some (l, source)) (hroom : legs.length < 8)
    (hnone : completeLeg l source s.operand = none) : legRun s = (s, .badOperand) := by
  simp only [legRun, hdraft, h, refuse, Config.draftLegs, not_le.2 hroom, if_false, hnone]

theorem legRun_of_complete (hdraft : s.draft = some { tag := tag, body := .posting epoch mode legs }) {l l' : Leg}
    {source : SourceArg} (h : legArguments s.args = some (l, source)) (hroom : legs.length < 8)
    (hsome : completeLeg l source s.operand = some l') :
    legRun s = ({ s with draft := some { tag := tag, body := .posting epoch mode (legs ++ [l']) } }, .ok) := by
  simp only [legRun, hdraft, h, Config.draftLegs, not_le.2 hroom, if_false, hsome]

end

/-- R61, R62: the parts of a leg that the arguments describe. -/
theorem legArguments_eq_some {args : Vector Byte 12} {target : Fin 64} {op : LegOp} {source : SourceArg}
    {multiplier : Option (Fin 32)} {guard : Option Guard} (htarget : args[0].toNat = target.val) (hop : args[1] = op.code)
    (hsource : sourceArgument op args = some source) (hmultiplier : optionalArg 32 args[6] = some multiplier)
    (hguard : guardArgument args = some guard) (hclear : op = .clear → multiplier = none) :
    legArguments args =
      some ({ target := target, op := op, source := .none, multiplier := multiplier, guard := guard }, source) := by
  have hpair : ¬(op = .clear ∧ multiplier ≠ none) := fun h => h.2 (hclear h.1)
  simp only [legArguments, indexArg_of_eq htarget, hop, legOpArg_code, hsource, hmultiplier, hguard, hpair, if_false]

theorem guardArgument_of_described {args : Vector Byte 12} {guard : Option Guard}
    (h : match guard with
      | some g => args[7].toNat = g.totaliser.val ∧ args[8] = g.relation.code ∧ args[9].toNat = g.threshold.val
      | none => args[7] = 255#8) : guardArgument args = some guard := by
  cases guard with
  | none => simp only [guardArgument, h, optionalArg_absent]
  | some g =>
    obtain ⟨htotaliser, hrelation, hthreshold⟩ := h
    simp only [guardArgument, optionalArg_of_eq (n := 64) (by decide) htotaliser, hrelation, relationArg_code,
      indexArg_of_eq hthreshold]

theorem multiplier_of_described {args : Vector Byte 12} {multiplier : Option (Fin 32)}
    (h : match multiplier with
      | some m => args[6].toNat = m.val
      | none => args[6] = 255#8) : optionalArg 32 args[6] = some multiplier := by
  cases multiplier with
  | none => rw [show args[6] = 255#8 from h, optionalArg_absent]
  | some m => exact optionalArg_of_eq (by decide) h

/-- R60, R62: what the arguments describe with the operand buffer is the leg. -/
theorem Leg.DescribedBy.complete {l : Leg} {args : Vector Byte 12} {o : OperandBuffer} (h : l.DescribedBy args o) :
    ∃ l' source, legArguments args = some (l', source) ∧ completeLeg l' source o = some l := by
  obtain ⟨target, op, source, multiplier, guard⟩ := l
  obtain ⟨htarget, hop, hsource, hmultiplier, hguard⟩ := h
  have hm := multiplier_of_described hmultiplier
  have hg := guardArgument_of_described hguard
  cases source with
  | immediate d =>
    obtain ⟨h2, hclear, h4, h5, haccepted, rfl⟩ := hsource
    refine ⟨_, .digits (args[4] == 1#8) args[5].toNat, legArguments_eq_some htarget hop ?_ hm hg (absurd · hclear), ?_⟩
    · simp only [sourceArgument, h2, BitVec.toNat_ofNat, Nat.reducePow, Nat.zero_mod, if_neg hclear, bitArg_of_bit h4,
        boundedArg_of_le h5]
    · simp only [completeLeg, haccepted, if_true]
  | constant k =>
    obtain ⟨h2, hclear, h3⟩ := hsource
    refine ⟨_, .fixed (.constant k), legArguments_eq_some htarget hop ?_ hm hg (absurd · hclear), rfl⟩
    simp [sourceArgument, h2, hclear, indexArg_of_eq h3]
  | totaliser t =>
    obtain ⟨h2, hclear, h3⟩ := hsource
    refine ⟨_, .fixed (.totaliser t), legArguments_eq_some htarget hop ?_ hm hg (absurd · hclear), rfl⟩
    simp [sourceArgument, h2, hclear, indexArg_of_eq h3]
  | none =>
    obtain ⟨h2, hclear, hnone⟩ := hsource
    refine ⟨_, .fixed .none, legArguments_eq_some htarget hop ?_ hm hg fun _ => hnone, rfl⟩
    simp [sourceArgument, h2, show op = .clear from hclear]

/-- Settles O9: the leg described is the leg completed. -/
theorem legAppends : Obligations.LegAppends := by
  intro s tag epoch mode legs l hwork hdraft hroom hdescribed
  obtain ⟨l', source, hargs, hcomplete⟩ := hdescribed.complete
  exact takesWork_eq hwork (legRun_of_complete (s := s.shown 0x02 true) hdraft hargs hroom hcomplete)

/-! ### What refuses a LEG (R61, R62) -/

theorem guardArgument_eq_none {args : Vector Byte 12} :
    guardArgument args = none ↔
      (63 < args[7].toNat ∧ args[7].toNat ≠ 255) ∨ (args[7].toNat ≤ 63 ∧ (5 < args[8].toNat ∨ 31 < args[9].toNat)) := by
  unfold guardArgument
  cases h7 : optionalArg 64 args[7] with
  | none =>
    obtain ⟨hge, hne⟩ := optionalArg_eq_none.1 h7
    exact iff_of_true rfl (.inl ⟨hge, hne⟩)
  | some g =>
    have hin : ¬(64 ≤ args[7].toNat ∧ args[7].toNat ≠ 255) := fun h => by
      rw [optionalArg_eq_none.2 h] at h7
      cases h7
    cases g with
    | none =>
      have := optionalArg_eq_absent.1 h7
      exact iff_of_false nofun (by omega)
    | some g =>
      have hne : args[7].toNat ≠ 255 := fun h => by
        rw [optionalArg_eq_absent.2 h] at h7
        cases h7
      have h8 := relationArg_eq_none (b := args[8])
      have h9 := indexArg_eq_none (b := args[9]) (n := 32)
      cases hr : relationArg args[8] <;> cases hk : indexArg 32 args[9] <;> simp only [hr, hk, true_iff, reduceCtorEq, false_iff] at h8 h9 ⊢ <;> omega

theorem sourceArgument_of_code {op : LegOp} {args : Vector Byte 12} (h : 3 < args[2].toNat) :
    sourceArgument op args = none := by
  unfold sourceArgument
  split
  all_goals first | omega | rfl

/-- R61: the source codes that CLEAR takes, and those that the other operations take. -/
theorem sourceArgument_eq_none {op : LegOp} {args : Vector Byte 12} :
    sourceArgument op args = none ↔
      3 < args[2].toNat ∨ (op = .clear ∧ args[2].toNat ≠ 3) ∨ (op ≠ .clear ∧ args[2].toNat = 3) ∨
      (args[2].toNat = 1 ∧ 31 < args[3].toNat) ∨ (args[2].toNat = 2 ∧ 63 < args[3].toNat) ∨
      (args[2].toNat = 0 ∧ (1 < args[4].toNat ∨ 8 < args[5].toNat)) := by
  have h3 (n : Nat) := indexArg_eq_none (b := args[3]) (n := n)
  have h4 := bitArg_eq_none (b := args[4])
  have h5 := boundedArg_eq_none (max := 8) (b := args[5])
  obtain h | h | h | h | h : args[2].toNat = 0 ∨ args[2].toNat = 1 ∨ args[2].toNat = 2 ∨ args[2].toNat = 3 ∨
      3 < args[2].toNat := by omega
  · by_cases hop : op = .clear
    · simp [sourceArgument, h, hop]
    · cases hb : bitArg args[4] <;> cases hs : boundedArg 8 args[5] <;> simp [sourceArgument, h, hop, hb, hs] <;>
        simp [hb, hs] at h4 h5 <;> omega
  · by_cases hop : op = .clear <;> simp [sourceArgument, h, hop, h3, Nat.lt_iff_add_one_le]
  · by_cases hop : op = .clear <;> simp [sourceArgument, h, hop, h3, Nat.lt_iff_add_one_le]
  · by_cases hop : op = .clear <;> simp [sourceArgument, h, hop]
  · exact iff_of_true (sourceArgument_of_code h) (.inl h)

/-- R61: the ten conditions on the numbers of the argument bytes. -/
theorem legMisdescribed_iff (args : Vector Byte 12) : LegMisdescribed args ↔
    63 < args[0].toNat ∨ (3 < args[1].toNat ∨ 3 < args[2].toNat) ∨ (args[1].toNat = 3 ∧ args[2].toNat ≠ 3) ∨
    (args[1].toNat < 3 ∧ args[2].toNat = 3) ∨
    ((args[2].toNat = 1 ∧ 31 < args[3].toNat) ∨ (args[2].toNat = 2 ∧ 63 < args[3].toNat)) ∨
    (args[2].toNat = 0 ∧ (1 < args[4].toNat ∨ 8 < args[5].toNat)) ∨ (31 < args[6].toNat ∧ args[6].toNat ≠ 255) ∨
    (args[1].toNat = 3 ∧ args[6].toNat ≠ 255) ∨ (63 < args[7].toNat ∧ args[7].toNat ≠ 255) ∨
    (args[7].toNat ≤ 63 ∧ (5 < args[8].toNat ∨ 31 < args[9].toNat)) := by
  simp only [LegMisdescribed, ne_eq, Byte.eq_ofNat_iff (show 0 < 256 by decide), Byte.eq_ofNat_iff (show 1 < 256 by decide),
    Byte.eq_ofNat_iff (show 2 < 256 by decide), Byte.eq_ofNat_iff (show 3 < 256 by decide),
    Byte.eq_ofNat_iff (show 255 < 256 by decide)]

/-- R61: an argument set describes no leg exactly under the ten conditions. -/
theorem legArguments_eq_none {args : Vector Byte 12} : legArguments args = none ↔ LegMisdescribed args := by
  rw [legMisdescribed_iff]
  have h0 := indexArg_eq_none (b := args[0]) (n := 64)
  have h1 := legOpArg_eq_none (b := args[1])
  have h6 := optionalArg_eq_none (b := args[6]) (n := 32)
  have h6' := optionalArg_eq_absent (b := args[6]) (n := 32)
  have hg := guardArgument_eq_none (args := args)
  unfold legArguments
  cases htarget : indexArg 64 args[0] with
  | none => exact iff_of_true rfl (.inl (h0.1 htarget))
  | some target =>
    cases hop : legOpArg args[1] with
    | none => exact iff_of_true rfl (.inr (.inl (.inl (h1.1 hop))))
    | some op =>
      have hclear : op = .clear ↔ args[1].toNat = 3 := by rw [← legOpArg_clear, hop, Option.some.injEq]
      have hs := sourceArgument_eq_none (op := op) (args := args)
      simp only [hclear, ne_eq] at hs
      have hle : ¬3 < args[1].toNat := fun h => by rw [h1.2 h] at hop; cases hop
      have hin : ¬64 ≤ args[0].toNat := fun h => by rw [h0.2 h] at htarget; cases htarget
      clear h0 h1
      cases hsource : sourceArgument op args with
      | none =>
        have hbad := hs.1 hsource
        clear hs hg h6 h6' hclear
        exact iff_of_true (by simp only [hsource]) (by omega)
      | some source =>
        have hfits : ¬_ := fun h => by rw [hs.2 h] at hsource; cases hsource
        clear hs
        cases hmultiplier : optionalArg 32 args[6] with
        | none =>
          exact iff_of_true (by simp only [hsource]) (by have := h6.1 hmultiplier; clear hfits hg h6 h6' hclear; omega)
        | some multiplier =>
          have hsix : ¬_ := fun h => by rw [h6.2 h] at hmultiplier; cases hmultiplier
          rw [hmultiplier, Option.some.injEq] at h6'
          clear h6
          cases hguard : guardArgument args with
          | none =>
            exact iff_of_true (by simp only [hsource]) (by have := hg.1 hguard; clear hfits hg h6' hclear; omega)
          | some guard =>
            have hseven : ¬_ := fun h => by rw [hg.2 h] at hguard; cases hguard
            clear hg
            simp only [hsource]
            by_cases hbad : op = .clear ∧ multiplier ≠ none
            · obtain ⟨h3, h255⟩ := hbad
              rw [ne_eq, h6'] at h255
              exact iff_of_true (if_pos ⟨h3, by rw [ne_eq, h6']; exact h255⟩) (by have := hclear.1 h3; omega)
            · rw [hclear, ne_eq, h6'] at hbad
              refine iff_of_false ?_ (by omega)
              rw [if_neg (by rw [hclear, ne_eq, h6']; exact hbad)]
              nofun

/-- R61, R62: an IMMEDIATE source lacks its digits until the operand buffer gives them. -/
theorem legArguments_digits {args : Vector Byte 12} {l : Leg} {source : SourceArg}
    (h : legArguments args = some (l, source)) (h2 : args[2] = 0#8) : ∃ neg scale, source = .digits neg scale := by
  have hdigits {op : LegOp} {x : SourceArg} (hx : sourceArgument op args = some x) : ∃ neg scale, x = .digits neg scale := by
    simp only [sourceArgument, h2, BitVec.toNat_ofNat, Nat.reducePow, Nat.zero_mod] at hx
    split at hx
    · cases hx
    · split at hx <;> cases hx
      exact ⟨_, _, rfl⟩
  unfold legArguments at h
  split at h
  · split at h
    · next hx _ _ =>
      split at h <;> cases h
      exact hdigits hx
    · cases h
  · cases h

/-- Settles O10, by the tests of R62 in order. -/
theorem legRefused : Obligations.LegRefused := by
  intro s hwork
  refine ⟨fun hdraft => takesWork_refused hwork (legRun_of_not_posting (s := s.shown 0x02 true) hdraft),
    fun tag epoch mode legs hdraft => ⟨fun hbad => ?misdescribed, fun hgood hfull => ?full, fun hgood hroom h2 ho => ?operand⟩⟩
  case misdescribed =>
    exact takesWork_refused hwork
      (legRun_of_misdescribed (s := s.shown 0x02 true) hdraft (legArguments_eq_none.2 hbad))
  case full =>
    exact takesWork_refused hwork
      (legRun_of_full (s := s.shown 0x02 true) hdraft (fun hn => hgood (legArguments_eq_none.1 hn)) hfull)
  case operand =>
    obtain ⟨⟨l, source⟩, hargs⟩ := Option.ne_none_iff_exists'.1 fun hn => hgood (legArguments_eq_none.1 hn)
    obtain ⟨neg, scale, rfl⟩ := legArguments_digits hargs h2
    have haccepted : (s.shown 0x02 true).operand.accepted = false := by
      show s.operand.accepted = false
      rcases ho with ho | ho | ho <;> simp [OperandBuffer.accepted, ho]
    refine takesWork_refused hwork (legRun_of_incomplete (s := s.shown 0x02 true) hdraft hargs hroom ?_)
    simp only [completeLeg, haccepted, Bool.false_eq_true, if_false]

end Sys2Proof.Machine
end

section
/-! PROOFS. FIELD (R63 to R66): the value each field code gives, and what refuses one. -/

namespace Sys2Proof.Machine

theorem exec_field (s : State) : exec .field s = takeCommand 0x03 true (whenReady fieldRun) s := rfl

section
variable {s : State}

theorem fieldRun_of_empty (h : s.draft = none) : fieldRun s = (s, .wrongState) := by
  simp only [fieldRun, h, refuse]

theorem fieldRun_of_refused {d : Draft} {r : ResultCode} (h : s.draft = some d)
    (hfield : fieldOn d.body s.args s.operand = .error r) : fieldRun s = (s, r) := by
  simp only [fieldRun, h, hfield, refuse]

theorem fieldRun_of_given {d : Draft} {b : Body} (h : s.draft = some d)
    (hfield : fieldOn d.body s.args s.operand = .ok b) :
    fieldRun s = ({ s with draft := some { d with body := b } }, .ok) := by
  simp only [fieldRun, h, hfield]

end

/-- A FIELD by what its field code gives on the draft's body, the operand series ended or not. -/
theorem exec_field_given {s : State} {tag : Half} {b b' : Body} (hwork : s.TakesWork)
    (hdraft : s.draft = some { tag := tag, body := b }) (h : fieldOn b s.args (endSeries s.operand) = .ok b') :
    exec .field s = .next ((s.replied 0x03 true .ok).withDraft tag b') :=
  takesWork_eq hwork (fieldRun_of_given (s := s.shown 0x03 true) hdraft h)

theorem exec_field_refused {s : State} {d : Draft} {r : ResultCode} (hwork : s.TakesWork)
    (hdraft : s.draft = some d) (h : fieldOn d.body s.args (endSeries s.operand) = .error r) :
    exec .field s = .next (s.replied 0x03 true r) :=
  takesWork_refused hwork (fieldRun_of_refused (s := s.shown 0x03 true) hdraft h)

@[simp] theorem endSeries_accepted (o : OperandBuffer) : (endSeries o).accepted = o.accepted := rfl
@[simp] theorem endSeries_coefficient (o : OperandBuffer) : (endSeries o).coefficient = o.coefficient := rfl

/-! ### Values (R63, R64, R65) -/

section
variable {args : Vector Byte 12} {o : OperandBuffer}

theorem valueField_ok (h2 : args[2] = 0#8 ∨ args[2] = 1#8) (h3 : args[3].toNat ≤ 8) (ho : o.accepted = true) :
    valueField args o = .ok (Dec.ofSign (args[2] == 1#8) o.coefficient args[3].toNat) := by
  simp only [valueField, bitArg_of_bit h2, boundedArg_of_le h3, ho, if_true]

theorem valueField_badArgument (h : 1 < args[2].toNat ∨ 8 < args[3].toNat) :
    valueField args o = .error .badArgument := by
  rcases h with h | h
  · simp only [valueField, bitArg_eq_none.2 h]
  · cases hb : bitArg args[2] <;> simp only [valueField, hb, boundedArg_eq_none.2 h]

theorem bitArg_of_le {b : Byte} (h : b.toNat ≤ 1) : ∃ x, bitArg b = some x :=
  Option.ne_none_iff_exists'.1 fun hn => absurd (bitArg_eq_none.1 hn) (by omega)

theorem valueField_badOperand (h2 : args[2].toNat ≤ 1) (h3 : args[3].toNat ≤ 8) (ho : o.accepted = false) :
    valueField args o = .error .badOperand := by
  obtain ⟨neg, hneg⟩ := bitArg_of_le h2
  simp only [valueField, hneg, boundedArg_of_le h3, ho, Bool.false_eq_true, if_false]

theorem quantumField_ok (h3 : args[3].toNat ≤ 10) (ho : o.accepted = true) (hc : o.coefficient < 10 ^ 12) :
    quantumField args o = .ok { value := o.coefficient, scale := args[3].toNat } := by
  have haccepted : o.acceptedConstant = true := by
    rw [OperandBuffer.acceptedConstant, ho, decide_eq_true hc]; rfl
  simp only [quantumField, boundedArg_of_le h3, haccepted, if_true, Dec.ofSign, Bool.false_eq_true, if_false]

theorem quantumField_badOperand (h3 : args[3].toNat ≤ 10) (h : o.accepted = false ∨ 10 ^ 12 ≤ o.coefficient) :
    quantumField args o = .error .badOperand := by
  have hrefused : o.acceptedConstant = false := by
    rcases h with h | h
    · simp [OperandBuffer.acceptedConstant, h]
    · simp only [OperandBuffer.acceptedConstant, Bool.and_eq_false_iff, decide_eq_false_iff_not]
      exact .inr (not_lt.2 h)
  simp only [quantumField, boundedArg_of_le h3, hrefused, Bool.false_eq_true, if_false]

/-- R195: a 16-bit number, least significant byte first. -/
theorem Half.toNat_ofBytes (lo hi : Byte) : (Half.ofBytes lo hi).toNat = lo.toNat + 256 * hi.toNat := by
  have hlo := lo.isLt
  have hhi := hi.isLt
  have hlt : hi.toNat * 2 ^ 8 < 2 ^ 16 := by omega
  have hdisjoint : lo.toNat ||| hi.toNat * 2 ^ 8 = lo.toNat + hi.toNat * 2 ^ 8 := by
    rw [Nat.or_comm, Nat.add_comm, Nat.mul_comm, Nat.two_pow_add_eq_or_of_lt hlo]
  simp only [Half.ofBytes, BitVec.toNat_or, BitVec.toNat_shiftLeft, BitVec.toNat_setWidth, Nat.shiftLeft_eq]
  rw [Nat.mod_eq_of_lt (by omega), Nat.mod_eq_of_lt (show hi.toNat < 2 ^ 16 by omega), Nat.mod_eq_of_lt hlt, hdisjoint]
  omega

theorem thresholdArg_ok {n : Nat} (h : args[1].toNat + 256 * args[2].toNat = n) (h1 : 1 ≤ n) (h2 : n ≤ 4096) :
    thresholdArg args = some n := by
  subst h
  rw [thresholdArg, Half.toNat_ofBytes, if_pos ⟨h1, h2⟩]

theorem thresholdArg_eq_none
    (h : args[1].toNat + 256 * args[2].toNat = 0 ∨ 4096 < args[1].toNat + 256 * args[2].toNat) :
    thresholdArg args = none := by
  rw [thresholdArg, Half.toNat_ofBytes, if_neg (by omega)]

end

/-! ### The selection (R66) -/

/-- R66: bit `n` of ARG(k+1) is bit `8k + n` of the selection. -/
theorem selectionArg_getLsbD (args : Vector Byte 12) (k n : Fin 8) :
    (selectionArg args).getLsbD (8 * k.val + n.val) = args[k.val + 1].getLsbD n.val := by
  obtain ⟨n, hn⟩ := n
  have hsub (a b : Nat) (h : b ≤ a) : a + n - b = a - b + n := by omega
  have hlow (b : Nat) (h : 8 ≤ b) : n < b := by omega
  have hbelow (a b : Nat) (h : a + 8 ≤ b) : a + n < b := by omega
  fin_cases k <;> simp (disch := omega) [selectionArg, BitVec.getLsbD_of_ge, hsub, hlow, hbelow]

theorem eq_selectionArg {args : Vector Byte 12} {x : BitVec 64}
    (h : ∀ k n : Fin 8, x.getLsbD (8 * k.val + n.val) = args[k.val + 1].getLsbD n.val) : x = selectionArg args := by
  apply BitVec.eq_of_getLsbD_eq
  intro i hi
  have hsplit : 8 * (i / 8) + i % 8 = i := Nat.div_add_mod i 8
  have hk : i / 8 < 8 := by omega
  have hn : i % 8 < 8 := Nat.mod_lt _ (by decide)
  have hx := h ⟨i / 8, hk⟩ ⟨i % 8, hn⟩
  have hs := selectionArg_getLsbD args ⟨i / 8, hk⟩ ⟨i % 8, hn⟩
  simp only [hsplit] at hx hs
  rw [hx, hs]

theorem selectionArg_zero {args : Vector Byte 12} (h : ∀ k : Fin 8, args[k.val + 1] = 0#8) : selectionArg args = 0#64 := by
  refine (eq_selectionArg fun k n => ?_).symm
  rw [h k]
  simp

/-! ### O11 -/

section
variable {s : State} {tag : Half} {target : Fin 64} {f : TotFields} (hwork : s.TakesWork)
  (hdraft : s.draft = some { tag := tag, body := .configureTotaliser target f })
include hwork hdraft

theorem exec_field_totaliser {g : TotFields} (h : totaliserField f s.args (endSeries s.operand) = .ok g) :
    exec .field s = .next ((s.replied 0x03 true .ok).withDraft tag (.configureTotaliser target g)) :=
  exec_field_given hwork hdraft (by simp only [fieldOn, h, Except.map])

theorem exec_field_totaliser_refused {r : ResultCode} (h : totaliserField f s.args (endSeries s.operand) = .error r) :
    exec .field s = .next (s.replied 0x03 true r) :=
  exec_field_refused hwork hdraft (by simp only [fieldOn, h, Except.map])

end

section
variable {s : State} {tag : Half} {c : Fin 8} {f : ChannelFields} (hwork : s.TakesWork)
  (hdraft : s.draft = some { tag := tag, body := .configureChannel c f })
include hwork hdraft

theorem exec_field_channel {g : ChannelFields} (h : channelField f s.args (endSeries s.operand) = .ok g) :
    exec .field s = .next ((s.replied 0x03 true .ok).withDraft tag (.configureChannel c g)) :=
  exec_field_given hwork hdraft (by simp only [fieldOn, h, Except.map])

theorem exec_field_channel_refused {r : ResultCode} (h : channelField f s.args (endSeries s.operand) = .error r) :
    exec .field s = .next (s.replied 0x03 true r) :=
  exec_field_refused hwork hdraft (by simp only [fieldOn, h, Except.map])

end

/-- Settles O11, field code by field code. -/
theorem fieldSetsOneField : Obligations.FieldSetsOneField := by
  refine ⟨fun s tag target f hwork hdraft => ?totaliser, fun s tag target f hwork hdraft => ?channel,
    fun s tag old new hwork hdraft h0 hbits hnew => ?checkpoint⟩
  case totaliser =>
    have given {g : TotFields} := exec_field_totaliser (g := g) hwork hdraft
    refine ⟨fun k h0 h1 => given ?_, fun h0 h1 => given ?_, fun r h0 h1 => given ?_, fun p h0 h1 => given ?_,
      fun h0 h1 => given ?_, fun h0 h1 => given ?_, fun h0 h1 => given ?_,
      fun h2 h3 ho => ⟨fun h0 h1 => given ?_, fun h0 h1 => given ?_, fun h0 => given ?_⟩⟩
    · simp [totaliserField, h0, h1, orBadArgument, Except.map]
    · simp [totaliserField, h0, boundedArg_of_le h1, orBadArgument, Except.map]
    · simp [totaliserField, h0, h1, orBadArgument, Except.map]
    · simp [totaliserField, h0, h1, orBadArgument, Except.map]
    · simp [totaliserField, h0, bitArg_of_bit h1, orBadArgument, Except.map]
    · simp [totaliserField, h0, limitField, h1, Except.map]
    · simp [totaliserField, h0, limitField, h1, Except.map]
    · simp [totaliserField, h0, limitField, h1, valueField_ok h2 h3, ho, Except.map]
    · simp [totaliserField, h0, limitField, h1, valueField_ok h2 h3, ho, Except.map]
    · simp [totaliserField, h0, valueField_ok h2 h3, ho, Except.map]
  case channel =>
    have given {g : ChannelFields} := exec_field_channel (g := g) hwork hdraft
    refine ⟨fun h0 h1 => given ?_, fun e h0 h1 => given ?_, fun h0 => given ?_, fun t h0 h1 => given ?_,
      fun h0 h3 ho hc => given ?_, fun d h0 h1 => given ?_, fun n h0 hn h1 h2 => given ?_⟩
    · simp [channelField, h0, bitArg_of_bit h1, orBadArgument, Except.map]
    · simp [channelField, h0, h1, orBadArgument, Except.map]
    · simp [channelField, h0]
    · simp [channelField, h0, indexArg_of_eq h1, orBadArgument, Except.map]
    · simp [channelField, h0, quantumField_ok h3 (o := endSeries s.operand) ho hc, Except.map]
    · simp [channelField, h0, h1, orBadArgument, Except.map]
    · simp [channelField, h0, thresholdArg_ok hn h1 h2, orBadArgument, Except.map]
  case checkpoint =>
    have hx := eq_selectionArg hbits
    refine exec_field_given hwork hdraft ?_
    rw [hx] at hnew ⊢
    simp only [fieldOn, h0, if_true, if_neg hnew]

/-! ### O12 -/

theorem totaliserField_of_code {f : TotFields} {args : Vector Byte 12} {o : OperandBuffer} (h : 7 < args[0].toNat) :
    totaliserField f args o = .error .badArgument := by
  unfold totaliserField
  split
  all_goals first | omega | rfl

theorem channelField_of_code {f : ChannelFields} {args : Vector Byte 12} {o : OperandBuffer}
    (h : args[0].toNat < 8 ∨ 14 < args[0].toNat) : channelField f args o = .error .badArgument := by
  unfold channelField
  split
  all_goals first | omega | rfl

theorem limitField_of_form {args : Vector Byte 12} {o : OperandBuffer} (h : 1 < args[1].toNat) :
    limitField args o = .error .badArgument := by
  unfold limitField
  split
  all_goals first | omega | rfl

/-- R64: a field that reads a value is refused as its value is. -/
theorem totaliserField_of_value {f : TotFields} {args : Vector Byte 12} {o : OperandBuffer} {r : ResultCode}
    (hcode : (args[0] = 5#8 ∨ args[0] = 6#8) ∧ args[1] = 1#8 ∨ args[0] = 7#8) (h : valueField args o = .error r) :
    totaliserField f args o = .error r := by
  rcases hcode with ⟨h0 | h0, h1⟩ | h0
  · simp [totaliserField, h0, limitField, h1, h, Except.map]
  · simp [totaliserField, h0, limitField, h1, h, Except.map]
  · simp [totaliserField, h0, h, Except.map]

/-- Settles O12, by the kind of the draft and then by the field code. -/
theorem fieldRefused : Obligations.FieldRefused := by
  intro s hwork
  refine ⟨fun hkind => ?kind, fun tag t f hdraft => ⟨fun hbad => ?totaliser, fun hcode h2 h3 ho => ?value⟩,
    fun tag c f hdraft => ⟨fun hbad => ?channel, fun h0 h3 ho => ?quantum⟩, fun tag x hdraft hbad => ?checkpoint⟩
  case kind =>
    cases hdraft : s.draft with
    | none => exact takesWork_refused hwork (fieldRun_of_empty (s := s.shown 0x03 true) hdraft)
    | some d =>
      refine exec_field_refused hwork hdraft ?_
      rcases hkind d hdraft with ⟨epoch, mode, legs, e⟩ | e <;> rw [e] <;> rfl
  case totaliser =>
    refine exec_field_totaliser_refused hwork hdraft ?_
    rcases hbad with h | ⟨h0, h⟩ | ⟨h0, h⟩ | ⟨h0, h⟩ | ⟨h0, h⟩ | ⟨h0, h⟩ | ⟨h0, h⟩ | ⟨hcode, h⟩
    · exact totaliserField_of_code h
    · simp [totaliserField, h0, kindArg_eq_none.2 h, orBadArgument, Except.map]
    · simp [totaliserField, h0, boundedArg_eq_none.2 h, orBadArgument, Except.map]
    · simp [totaliserField, h0, roundingArg_eq_none.2 h, orBadArgument, Except.map]
    · simp [totaliserField, h0, policyArg_eq_none.2 h, orBadArgument, Except.map]
    · simp [totaliserField, h0, bitArg_eq_none.2 h, orBadArgument, Except.map]
    · rcases h0 with h0 | h0 <;> simp [totaliserField, h0, limitField_of_form h, Except.map]
    · exact totaliserField_of_value hcode (valueField_badArgument h)
  case value =>
    exact exec_field_totaliser_refused hwork hdraft (totaliserField_of_value hcode (valueField_badOperand h2 h3 ho))
  case channel =>
    refine exec_field_channel_refused hwork hdraft ?_
    rcases hbad with h | h | ⟨h0, h⟩ | ⟨h0, h⟩ | ⟨h0, h⟩ | ⟨h0, h⟩ | ⟨h0, h⟩ | ⟨h0, h⟩
    · exact channelField_of_code (.inl h)
    · exact channelField_of_code (.inr h)
    · simp [channelField, h0, bitArg_eq_none.2 h, orBadArgument, Except.map]
    · simp [channelField, h0, edgeArg_eq_none.2 h, orBadArgument, Except.map]
    · simp [channelField, h0, indexArg_eq_none (n := 64).2 h, orBadArgument, Except.map]
    · simp [channelField, h0, quantumField, boundedArg_eq_none.2 h, Except.map]
    · simp [channelField, h0, directionArg_eq_none.2 h, orBadArgument, Except.map]
    · simp [channelField, h0, thresholdArg_eq_none h, orBadArgument, Except.map]
  case quantum =>
    refine exec_field_channel_refused hwork hdraft ?_
    simp [channelField, h0, quantumField_badOperand (o := endSeries s.operand) h3 ho, Except.map]
  case checkpoint =>
    refine exec_field_refused hwork hdraft ?_
    rcases hbad with h0 | hzero
    · simp only [fieldOn, if_neg h0]
    · by_cases h0 : s.args[0] = 15#8 <;> simp [fieldOn, h0, selectionArg_zero hzero]

end Sys2Proof.Machine
end

section
/-! PROOFS. SUBMIT and CANCEL (R67 to R70, R76, R77, R80 to R83) and WRITE_PENDING (R46 to R48). -/

namespace Sys2Proof.Machine

/-! ### A sequence number in the argument registers (R69, R80) -/

theorem Word.ofBytes_bytes (n : Word) :
    Word.ofBytes (n.setWidth 8) ((n >>> 8).setWidth 8) ((n >>> 16).setWidth 8) ((n >>> 24).setWidth 8) = n := by
  apply BitVec.eq_of_getLsbD_eq
  intro i hi
  simp only [Word.ofBytes, BitVec.getLsbD_or, BitVec.getLsbD_shiftLeft, BitVec.getLsbD_setWidth,
    BitVec.getLsbD_ushiftRight, hi, decide_true, Bool.true_and]
  obtain h | h | h | h : i < 8 ∨ (8 ≤ i ∧ i < 16) ∨ (16 ≤ i ∧ i < 24) ∨ 24 ≤ i := by omega
  · simp [h, show i < 16 by omega, show i < 24 by omega]
  · obtain ⟨hl, hu⟩ := h
    simp [not_lt.2 hl, show i - 8 < 8 by omega, show 8 + (i - 8) = i by omega, show i - 8 < 32 by omega, hu,
      show i < 24 by omega]
  · obtain ⟨hl, hu⟩ := h
    simp [show ¬i < 8 by omega, not_lt.2 hl, show i - 16 < 8 by omega, show 16 + (i - 16) = i by omega,
      show ¬i - 8 < 8 by omega, show i - 16 < 32 by omega, hu]
  · simp [show ¬i < 8 by omega, show ¬i < 16 by omega, not_lt.2 h, show i - 24 < 8 by omega,
      show 24 + (i - 24) = i by omega, show ¬i - 8 < 8 by omega, show ¬i - 16 < 8 by omega, show i - 24 < 32 by omega]

theorem sequenceArg_withSequence (n : Word) (args : Vector Byte 12) : sequenceArg (withSequence n args) = n := by
  have h : sequenceArg (withSequence n args) =
      Word.ofBytes (n.setWidth 8) ((n >>> 8).setWidth 8) ((n >>> 16).setWidth 8) ((n >>> 24).setWidth 8) := by
    simp [sequenceArg, withSequence]
  rw [h, Word.ofBytes_bytes]

theorem withSequence_getElem (n : Word) (args : Vector Byte 12) {i : Fin 12} (h : 4 ≤ i.val) :
    (withSequence n args)[i] = args[i] := by
  have h0 : (0 : Nat) ≠ i := by omega
  have h1 : (1 : Nat) ≠ i := by omega
  have h2 : (2 : Nat) ≠ i := by omega
  have h3 : (3 : Nat) ≠ i := by omega
  simp [withSequence, h0, h1, h2, h3]

/-! ### SUBMIT (R68 to R70) -/

theorem exec_submit (s : State) : exec .submit s = takeCommand 0x04 false (whenReady submitRun) s := rfl

theorem emptyPosting_iff (d : Draft) :
    (d.body.isPosting && d.legs.isEmpty) = true ↔ ∃ epoch mode, d.body = .posting epoch mode [] := by
  obtain ⟨tag, body⟩ := d
  cases body <;> simp [Body.isPosting, Draft.legs]

section
variable {s : State} {d : Draft}

theorem submitRun_of_empty (h : s.draft = none) : submitRun s = (s, .wrongState) := by
  simp only [submitRun, h, refuse]

theorem submitRun_of_emptyPosting (h : s.draft = some d) (hbody : ∃ epoch mode, d.body = .posting epoch mode []) :
    submitRun s = (s, .emptyDraft) := by
  simp only [submitRun, h, (emptyPosting_iff d).2 hbody, if_true, refuse]

theorem Body.not_posting_of_configuration {b : Body} (h : b.isConfiguration = true) : b.isPosting = false := by
  cases b <;> first | rfl | cases h

theorem submitRun_of_guarded (h : s.draft = some d) (hbody : d.body.isConfiguration = true) (hcfgen : s.cfgen = false) :
    submitRun s = (s, .protected_) := by
  simp [submitRun, h, Body.not_posting_of_configuration hbody, hbody, hcfgen, refuse]

theorem submitRun_of_locked (h : s.draft = some d) (hbody : d.body = .switch) (hlock : s.constants.lock.isSome = true) :
    submitRun s = (s, .pendingLocked) := by
  simp [submitRun, h, hbody, hlock, Body.isPosting, Body.isConfiguration, refuse]

/-- R68: the draft's own tests pass: it is no empty posting, CFGEN allows it, and the pending bank is free for it. -/
structure State.Admits (s : State) (d : Draft) : Prop where
  filled : ∀ epoch mode, d.body ≠ .posting epoch mode []
  allowed : d.body.isConfiguration = true → s.cfgen = true
  unlocked : d.body = .switch → s.constants.lock = none

/-- R68: past the draft's own tests, the tests of the part. -/
theorem submitRun_of_admitted (h : s.draft = some d) (hd : s.Admits d) :
    submitRun s =
      if s.pfTaken then refuse .powerdown s
      else match s.queue.nextSeq with
        | none => refuse .sequenceExhausted s
        | some n =>
          if Config.queueCapacity ≤ s.queue.items.length then refuse .queueFull (wantSpace s)
          else if s.queue.legsFree < d.legs.length then refuse .legsExhausted (wantSpace s)
          else (acceptDraft d n s, .ok) := by
  obtain ⟨hfilled, hallowed, hunlocked⟩ := hd
  have h1 : (d.body.isPosting && d.legs.isEmpty) = false := Bool.eq_false_iff.2 fun hb => by
    obtain ⟨epoch, mode, e⟩ := (emptyPosting_iff d).1 hb
    exact hfilled epoch mode e
  have h2 : (d.body.isConfiguration && !s.cfgen) = false := by
    cases hb : d.body.isConfiguration
    · rfl
    · rw [hallowed hb]; rfl
  have h3 : (d.body == .switch && s.constants.lock.isSome) = false := by
    by_cases hb : d.body = .switch
    · rw [hunlocked hb]; simp
    · simp [hb]
  simp only [submitRun, h, h1, h2, h3, Bool.false_eq_true, if_false] <;> rfl

end

/-- Settles O13: the draft accepted, its number in ARG0 to ARG3. -/
theorem submitHandsOver : Obligations.SubmitHandsOver := by
  intro s d n hwork hpf hdraft hseq hroom hlegs hfilled hallowed hunlocked
  refine ⟨withSequence n s.args, sequenceArg_withSequence n s.args, fun i hi => withSequence_getElem n s.args hi, ?_⟩
  have hadmits : (s.shown 0x04 false).Admits d := ⟨hfilled, hallowed, hunlocked⟩
  have hfree : ¬s.queue.legsFree < d.legs.length := by
    unfold Queue.legsFree
    rw [Config.legPool]
    omega
  have hfull : ¬Config.queueCapacity ≤ s.queue.items.length := not_le.2 hroom
  have hrun : submitRun (s.shown 0x04 false) = (acceptDraft d n (s.shown 0x04 false), .ok) := by
    rw [submitRun_of_admitted (s := s.shown 0x04 false) hdraft hadmits]
    simp only [State.shown, hpf, hseq, hfull, hfree, Bool.false_eq_true, if_false]
  rw [exec_submit, takesWork_eq hwork hrun]
  unfold acceptDraft nextSequence
  by_cases hb : d.body = .switch <;> simp only [hb, if_true, if_false] <;> rfl

/-- Settles O14, test by test. -/
theorem submitRefused : Obligations.SubmitRefused := by
  intro s hwork
  refine ⟨fun h => takesWork_refused hwork (submitRun_of_empty (s := s.shown 0x04 false) h), fun d hdraft =>
    ⟨fun hempty => takesWork_refused hwork (submitRun_of_emptyPosting (s := s.shown 0x04 false) hdraft hempty),
      fun hbody hcfgen => takesWork_refused hwork (submitRun_of_guarded (s := s.shown 0x04 false) hdraft hbody hcfgen),
      fun hbody hlock => takesWork_refused hwork (submitRun_of_locked (s := s.shown 0x04 false) hdraft hbody hlock),
      fun hfilled hallowed hunlocked => ?_⟩⟩
  have hrun := submitRun_of_admitted (s := s.shown 0x04 false) hdraft ⟨hfilled, hallowed, hunlocked⟩
  refine ⟨fun hpf => takesWork_refused hwork (hrun.trans ?powerFail),
    fun hpf hseq => takesWork_refused hwork (hrun.trans ?exhausted), fun n hpf hseq =>
    ⟨fun hfull => takesWork_eq (u := wantSpace (s.shown 0x04 false)) (r := .queueFull) hwork (hrun.trans ?full),
      fun hroom hlegs hheld =>
        takesWork_eq (u := wantSpace (s.shown 0x04 false)) (r := .legsExhausted) hwork (hrun.trans ?legs)⟩⟩
  case powerFail => simp only [State.shown, hpf, if_true]; rfl
  case exhausted => simp only [State.shown, hpf, hseq, Bool.false_eq_true, if_false]; rfl
  case full =>
    have hcapacity : Config.queueCapacity ≤ s.queue.items.length := hfull
    simp only [State.shown, hpf, hseq, hcapacity, Bool.false_eq_true, if_false, if_true]; rfl
  case legs =>
    have hcapacity : ¬Config.queueCapacity ≤ s.queue.items.length := not_le.2 hroom
    have hfree : s.queue.legsFree < d.legs.length := by
      unfold Queue.legsFree
      rw [Config.legPool]
      omega
    simp only [State.shown, hpf, hseq, hcapacity, hfree, Bool.false_eq_true, if_false, if_true]; rfl

/-! ### CANCEL (R81, R83) -/

theorem exec_cancel (s : State) : exec .cancel s = takeCommand 0x06 false (onlyServing cancelRun) s := rfl

section
variable {s : State} {q : QueueItem}

theorem cancelRun_of_absent (h : ∀ q ∈ s.queue.items, q.seq ≠ sequenceArg s.args) : cancelRun s = (s, .notFound) := by
  have hfind : (s.queue.items.find? fun q => q.seq == sequenceArg s.args) = none :=
    List.find?_eq_none.2 fun q hq => by simpa using h q hq
  simp only [cancelRun, hfind, refuse]

/-- R80: the item of the number in ARG0 to ARG3. -/
theorem find_held {before after : List QueueItem} {n : Word} (hbefore : ∀ x ∈ before, x.seq ≠ n) (hq : q.seq = n) :
    ((before ++ q :: after).find? fun x => x.seq == n) = some q := by
  have hnone : (before.find? fun x => x.seq == n) = none := List.find?_eq_none.2 fun x hx => by simpa using hbefore x hx
  simp [List.find?_append, hnone, hq]

theorem eraseP_held {before after : List QueueItem} {n : Word} (hbefore : ∀ x ∈ before, x.seq ≠ n) (hq : q.seq = n) :
    ((before ++ q :: after).eraseP fun x => x.seq == n) = before ++ after := by
  rw [List.eraseP_append_right _ fun x hx => by simpa using hbefore x hx, List.eraseP_cons_of_pos (by simp [hq])]

end

/-- R83: the removal announces the space that was wanted. -/
theorem removeItems_eq (items : List QueueItem) (s : State) :
    removeItems items s =
      { s with
        queue := { s.queue with items := items, spaceWanted := false }
        events := if s.queue.spaceWanted = true then s.events ||| Event.queueSpace.mask else s.events } := by
  unfold removeItems announceSpace
  cases hw : s.queue.spaceWanted
  · rw [if_neg Bool.false_ne_true, if_neg Bool.false_ne_true, ← hw]
  · rfl

theorem freeLock_eq (q : QueueItem) (s : State) :
    freeLock q s =
      { s with
        constants := { s.constants with
          lock := if q.draft.body = .switch ∧ s.constants.lock = some q.seq then none else s.constants.lock } } := by
  unfold freeLock
  split <;> rfl

/-- Settles O16, by whether the number is held and the item's state. -/
theorem cancelWithdraws : Obligations.CancelWithdraws := by
  intro s hservice
  refine ⟨fun habsent => ?absent, fun before after q hitems hbefore hq => ⟨fun hactive => ?late, fun hqueued => ?removed⟩⟩
  case absent =>
    rw [exec_cancel, takesService_run hservice, cancelRun_of_absent (s := { s with command := 0x06 }) habsent]
    rfl
  all_goals
    have hfind : (s.queue.items.find? fun x => x.seq == sequenceArg s.args) = some q := by
      rw [hitems]; exact find_held hbefore hq
  case late =>
    have hrun : cancelRun { s with command := 0x06 } = ({ s with command := 0x06 }, .tooLate) := by
      simp only [cancelRun, hfind, hactive, if_true, refuse]
    rw [exec_cancel, takesService_run hservice, hrun]
    rfl
  case removed =>
    have herase : (s.queue.items.eraseP fun x => x.seq == q.seq) = before ++ after := by
      rw [hitems]; exact eraseP_held (fun x hx => by rw [hq]; exact hbefore x hx) rfl
    have hrun : cancelRun { s with command := 0x06 } =
        (freeLock q (removeItems (before ++ after) { s with command := 0x06 }), .ok) := by
      simp only [cancelRun, hfind, hqueued, Bool.false_eq_true, if_false, herase]
    rw [exec_cancel, takesService_run hservice, hrun, freeLock_eq, removeItems_eq]
    rfl

/-! ### WRITE_PENDING (R46 to R48) -/

theorem exec_writePending (s : State) :
    exec .writePending s = takeCommand 0x07 true (whenReady writePendingRun) s := rfl

section
variable {args : Vector Byte 12} {i : Fin 32}

theorem pendingArguments_eq_none
    (h : 31 < args[0].toNat ∨ 1 < args[1].toNat ∨ (args[1] = 1#8 ∧ (1 < args[2].toNat ∨ 10 < args[3].toNat))) :
    pendingArguments args = none := by
  rcases h with h | h | ⟨h1, h⟩
  · simp only [pendingArguments, indexArg_eq_none (n := 32).2 h]
  · cases hi : indexArg 32 args[0] <;> simp only [pendingArguments, hi, bitArg_eq_none.2 h]
  · have hb : bitArg args[1] = some true := by rw [h1]; rfl
    cases hi : indexArg 32 args[0]
    · simp only [pendingArguments, hi]
    · rcases h with h | h
      · simp only [pendingArguments, hi, hb, bitArg_eq_none.2 h]
      · cases h2 : bitArg args[2] <;> simp only [pendingArguments, hi, hb, h2, boundedArg_eq_none.2 h]

theorem pendingArguments_invalid (h0 : args[0].toNat = i.val) (h1 : args[1] = 0#8) :
    pendingArguments args = some (i, none) := by
  have hb : bitArg args[1] = some false := by rw [h1]; rfl
  simp only [pendingArguments, indexArg_of_eq h0, hb]

theorem bitArg_of_le_one {b : Byte} (h : b.toNat ≤ 1) : bitArg b = some (b == 1#8) := by
  refine bitArg_of_bit ?_
  rw [Byte.eq_ofNat_iff (show 0 < 256 by decide), Byte.eq_ofNat_iff (show 1 < 256 by decide)]
  omega

theorem pendingArguments_valid (h0 : args[0].toNat = i.val) (h1 : args[1] = 1#8) (h2 : args[2].toNat ≤ 1)
    (h3 : args[3].toNat ≤ 10) : pendingArguments args = some (i, some (args[2] == 1#8, args[3].toNat)) := by
  have hb : bitArg args[1] = some true := by rw [h1]; rfl
  simp only [pendingArguments, indexArg_of_eq h0, hb, bitArg_of_le_one h2, boundedArg_of_le h3]

end

theorem acceptedConstant_eq_true {o : OperandBuffer} (h : o.accepted = true) (hc : o.coefficient < 10 ^ 12) :
    o.acceptedConstant = true := by
  rw [OperandBuffer.acceptedConstant, h, decide_eq_true hc]; rfl

theorem acceptedConstant_eq_false {o : OperandBuffer} (h : o.accepted = false ∨ 10 ^ 12 ≤ o.coefficient) :
    o.acceptedConstant = false := by
  simp only [OperandBuffer.acceptedConstant, Bool.and_eq_false_iff, decide_eq_false_iff_not, not_lt]
  exact h

section
variable {s : State} {i : Fin 32}

theorem writePendingRun_of_misnamed (h : pendingArguments s.args = none) : writePendingRun s = (s, .badArgument) := by
  simp only [writePendingRun, h, refuse]

theorem writePendingRun_of_locked {form : Option (Bool × Nat)} (h : pendingArguments s.args = some (i, form))
    (hlock : s.constants.lock.isSome = true) : writePendingRun s = (s, .pendingLocked) := by
  simp only [writePendingRun, h, hlock, if_true, refuse]

theorem writePendingRun_of_invalid (h : pendingArguments s.args = some (i, none)) (hlock : s.constants.lock = none) :
    writePendingRun s =
      ({ s with constants := { s.constants with pending := s.constants.pending.set i none } }, .ok) := by
  simp only [writePendingRun, h, hlock, Option.isSome_none, Bool.false_eq_true, if_false]

theorem writePendingRun_of_constant {neg : Bool} {scale : Nat} (h : pendingArguments s.args = some (i, some (neg, scale)))
    (hlock : s.constants.lock = none) (ho : s.operand.acceptedConstant = true) :
    writePendingRun s =
      ({ s with constants := { s.constants with
          pending := s.constants.pending.set i (some (Dec.ofSign neg s.operand.coefficient scale)) } }, .ok) := by
  simp only [writePendingRun, h, hlock, Option.isSome_none, Bool.false_eq_true, if_false, ho, if_true]

theorem writePendingRun_of_noConstant {neg : Bool} {scale : Nat}
    (h : pendingArguments s.args = some (i, some (neg, scale))) (hlock : s.constants.lock = none)
    (ho : s.operand.acceptedConstant = false) : writePendingRun s = (s, .badOperand) := by
  simp only [writePendingRun, h, hlock, Option.isSome_none, Bool.false_eq_true, if_false, ho, refuse]

end

/-- Settles O17, by the form of the arguments and then by the lock and the buffer. -/
theorem writePendingEntry : Obligations.WritePendingEntry := by
  intro s hwork
  refine ⟨fun hbad => takesWork_refused hwork
      (writePendingRun_of_misnamed (s := s.shown 0x07 true) (pendingArguments_eq_none hbad)),
    fun i h0 => ⟨fun h1 => ?invalid, fun h1 h2 h3 => ?valid⟩⟩
  case invalid =>
    have hargs := pendingArguments_invalid h0 h1
    exact ⟨fun hlock => takesWork_refused hwork (writePendingRun_of_locked (s := s.shown 0x07 true) hargs hlock),
      fun hlock => takesWork_eq hwork (writePendingRun_of_invalid (s := s.shown 0x07 true) hargs hlock)⟩
  case valid =>
    have hargs := pendingArguments_valid h0 h1 h2 h3
    refine ⟨fun hlock => takesWork_refused hwork (writePendingRun_of_locked (s := s.shown 0x07 true) hargs hlock),
      fun hlock ho hc => ?_, fun hlock ho => takesWork_refused hwork
        (writePendingRun_of_noConstant (s := s.shown 0x07 true) hargs hlock (acceptedConstant_eq_false ho))⟩
    have hrun := writePendingRun_of_constant (s := s.shown 0x07 true) hargs hlock (acceptedConstant_eq_true ho hc)
    refine (takesWork_eq hwork hrun).trans ?_
    by_cases hneg : s.args[2] = 1#8 <;> simp only [Dec.ofSign, hneg, beq_self_eq_true, beq_iff_eq, if_true, if_false] <;> rfl

end Sys2Proof.Machine
end

section
/-! PROOFS. The operand buffer (R13 to R16) and the readout buffer (R190), byte by byte. -/

namespace Sys2Proof.Machine

/-! ### The step -/

/-- Settles O1. -/
theorem stepRunsFrontCommand : Obligations.StepRunsFrontCommand := by
  refine ⟨fun c rest s h => ?_, fun s h => ?_⟩ <;> simp only [step, h] <;> rfl

/-! ### Pairs written to OPERAND (R13 to R15) -/

section
variable {s : State} {data : Byte}

theorem exec_operand_taken (h : s.writesAt 0x10#6 = true) (hd : s.device = .ready ∨ s.device = .halted) :
    exec (.operand data) s = .next { s with operand := writeOperand data s.operand } := by
  have hd' : (s.device == .ready || s.device == .halted) = true := by simpa using hd
  change execOperand data s = _
  simp only [execOperand, h, hd', Bool.and_self, if_true]

theorem exec_operand_ignored (hd : s.device = .starting ∨ s.device = .powerdown) :
    exec (.operand data) s = .next s := by
  change execOperand data s = _
  rcases hd with hd | hd <;> simp [execOperand, hd]

end

section
variable {o : OperandBuffer} {data : Byte}

theorem pairLegal_iff : pairLegal data = true ↔ data.toNat / 16 ≤ 9 ∧ data.toNat % 16 ≤ 9 := decide_eq_true_iff

theorem pairLegal_eq_false (h : 9 < data.toNat / 16 ∨ 9 < data.toNat % 16) : pairLegal data = false :=
  decide_eq_false fun hl => by omega

theorem pushPair_legal (hroom : o.count < 9) (h : pairLegal data = true) :
    pushPair data o = { o with pairs := o.pairs.set o.count data, count := o.count + 1 } := by
  simp [pushPair, hroom, h]

theorem pushPair_illegal (hroom : o.count < 9) (h : pairLegal data = false) :
    pushPair data o = { o with pairs := o.pairs.set o.count 0#8, count := o.count + 1, badDigit := true } := by
  simp [pushPair, hroom, h]

theorem pushPair_full (h : o.count = 9) : pushPair data o = { o with overrun := true } := by simp [pushPair, h]

theorem writeOperand_open (h : o.seriesOpen = true) : writeOperand data o = pushPair data o := by
  simp [writeOperand, h]

theorem writeOperand_ended (h : o.seriesOpen = false) :
    writeOperand data o = pushPair data { OperandBuffer.cleared with seriesOpen := true } := by simp [writeOperand, h]

end

/-- Settles O3, by the series, its room and the digits of the pair. -/
theorem operandPairTaken : Obligations.OperandPairTaken := by
  intro data s hwrites
  refine ⟨fun hd => ⟨fun hroom hopen hlegal => ?_, fun hroom hopen hbad => ?_, fun hfull hopen => ?_,
    fun hended hlegal => ?_, fun hended hbad => ?_⟩, fun hd => exec_operand_ignored hd⟩ <;>
    rw [exec_operand_taken hwrites hd]
  · rw [writeOperand_open hopen, pushPair_legal hroom (pairLegal_iff.2 hlegal)]
  · rw [writeOperand_open hopen, pushPair_illegal hroom (pairLegal_eq_false hbad)]
  · rw [writeOperand_open hopen, pushPair_full hfull]
  · rw [writeOperand_ended hended, pushPair_legal (by decide) (pairLegal_iff.2 hlegal)]
    rfl
  · rw [writeOperand_ended hended, pushPair_illegal (by decide) (pairLegal_eq_false hbad)]
    congr

/-! ### A series of legal pairs (R14, R16) -/

/-- R14: an unmarked series that holds these pairs. -/
structure OperandBuffer.Holds (o : OperandBuffer) (ps : List Byte) : Prop where
  count : o.count = ps.length
  pairs : o.pairs.toList.take o.count = ps
  legal : o.badDigit = false
  fitting : o.overrun = false
  taking : o.seriesOpen = true

theorem take_succ_set {α : Type} {l : List α} {n : Nat} (x : α) (h : n < l.length) :
    (l.set n x).take (n + 1) = l.take n ++ [x] := by
  rw [List.take_add_one, List.getElem?_set_self h, List.take_set_of_le (Nat.le_refl n)]
  rfl

theorem OperandBuffer.Holds.push {o : OperandBuffer} {ps : List Byte} {p : Byte} (h : o.Holds ps)
    (hroom : ps.length < 9) (hp : pairLegal p = true) : (pushPair p o).Holds (ps ++ [p]) := by
  obtain ⟨hcount, hpairs, hlegal, hfitting, htaking⟩ := h
  rw [pushPair_legal (hcount ▸ hroom) hp]
  refine ⟨by simp [hcount], ?_, hlegal, hfitting, htaking⟩
  rw [Vector.toList_set, take_succ_set _ (by simp only [Vector.length_toList]; omega), hpairs]

theorem OperandBuffer.holds_fresh : OperandBuffer.Holds { OperandBuffer.cleared with seriesOpen := true } [] :=
  ⟨rfl, rfl, rfl, rfl, rfl⟩

/-- Legal pairs delivered to an open series with room for them are appended to it. -/
theorem afterAll_operand (ps : List Byte) {s : State} {held : List Byte} (hwrites : s.writesAt 0x10#6 = true)
    (hd : s.device = .ready) (ho : s.operand.Holds held) (hroom : held.length + ps.length ≤ 9)
    (hlegal : ∀ p ∈ ps, pairLegal p = true) :
    ∃ t, afterAll (ps.map Instr.operand) s = some t ∧ t.operand.Holds (held ++ ps) := by
  induction ps generalizing s held with
  | nil => exact ⟨s, rfl, by simpa using ho⟩
  | cons p ps ih =>
    rw [List.length_cons] at hroom
    have hpush := ho.push (by omega) (hlegal p List.mem_cons_self)
    simp only [List.map_cons, afterAll, exec_operand_taken hwrites (.inl hd), writeOperand_open ho.taking]
    obtain ⟨t, hrun, ht⟩ := ih (s := { s with operand := pushPair p s.operand }) hwrites hd hpush
      (by simp only [List.length_append, List.length_singleton]; omega) fun q hq => hlegal q (List.mem_cons_of_mem _ hq)
    exact ⟨t, hrun, by simpa using ht⟩

/-- R14: the number of a list of pairs, digit pair by digit pair. -/
theorem pairsValue_eq_sum (ps : List Byte) :
    pairsValue ps = ((List.range ps.length).map fun i => pairValue (ps.getD i 0#8) * 100 ^ i).sum := by
  induction ps with
  | nil => rfl
  | cons p ps ih =>
    rw [pairsValue, ih, List.length_cons, List.range_succ_eq_map, List.map_cons, List.sum_cons, List.map_map,
      ← List.sum_map_mul_left]
    congr 2
    · simp
    · refine List.map_congr_left fun i _ => ?_
      simp only [Function.comp_apply, List.getD_cons_succ, pow_succ]
      ring

/-- Settles O4: the first pair clears the buffer and opens the series, the others are appended. -/
theorem operandDigits : Obligations.OperandDigits := by
  intro ps s hwrites hd hended hsome hroom hlegal
  obtain ⟨p, rest, rfl⟩ : ∃ p rest, ps = p :: rest := List.exists_cons_of_length_pos hsome
  have hfirst : (pushPair p { OperandBuffer.cleared with seriesOpen := true }).Holds [p] :=
    OperandBuffer.holds_fresh.push (by decide) (pairLegal_iff.2 (hlegal p List.mem_cons_self))
  obtain ⟨t, hrun, hcount, hpairs, hdigits, hfitting, -⟩ :=
    afterAll_operand rest (s := { s with operand := pushPair p { OperandBuffer.cleared with seriesOpen := true } })
      hwrites hd hfirst (by simpa [Nat.add_comm] using hroom) fun q hq =>
        pairLegal_iff.2 (hlegal q (List.mem_cons_of_mem _ hq))
  refine ⟨t, ?_, hcount, ?_, ?_⟩
  · simpa only [List.map_cons, afterAll, exec_operand_taken hwrites (.inl hd), writeOperand_ended hended] using hrun
  · simp [OperandBuffer.accepted, hcount, hdigits, hfitting]
  · rw [OperandBuffer.coefficient, hpairs]
    exact pairsValue_eq_sum (p :: rest)

/-! ### The readout buffer (R190) -/

/-- R190: a read of READOUT moves the pointer and shifts out the byte the next read returns. -/
theorem exec_readout {s : State} (h : s.readsAt 0x11#6 = true) :
    exec .readout s = .next
      { s with readout := s.readout.advance, port := { s.port with sdo := .shifting s.readout.advance.next } } := by
  change execReadout s = _
  simp only [execReadout, h, if_true]

section
variable {r : Readout}

theorem Readout.advance_empty (h : r.bytes = []) : r.advance = r := by simp [Readout.advance, h]

theorem Readout.advance_inside (h : r.pointer < r.bytes.length) : r.advance = { r with pointer := r.pointer + 1 } := by
  have hne : r.bytes ≠ [] := List.ne_nil_of_length_pos (Nat.zero_lt_of_lt h)
  simp [Readout.advance, hne, h]

theorem Readout.advance_end (hne : r.bytes ≠ []) (h : r.pointer = r.bytes.length) :
    r.advance = { r with pointer := 1 } := by simp [Readout.advance, hne, h]

theorem succ_mod_eq {n : Nat} (hn : 0 < n) (k : Nat) : (k + 1) % n = if k % n + 1 < n then k % n + 1 else 0 := by
  have hlt := Nat.mod_lt k hn
  rw [← Nat.mod_add_mod]
  split
  next h => exact Nat.mod_eq_of_lt h
  next h => rw [show k % n + 1 = n by omega, Nat.mod_self]

/-- R190: where the pointer stands after `k` reads of a record from its first byte. -/
def Readout.pointerAfter (n k : Nat) : Nat := if k = 0 then 0 else (k - 1) % n + 1

theorem Readout.pointerAfter_succ {n : Nat} (hn : 0 < n) (k : Nat) :
    Readout.pointerAfter n (k + 1) =
      if Readout.pointerAfter n k < n then Readout.pointerAfter n k + 1 else 1 := by
  cases k with
  | zero => simp [Readout.pointerAfter, hn]
  | succ k =>
    simp only [Readout.pointerAfter, Nat.succ_ne_zero, if_false, Nat.add_sub_cancel]
    rw [succ_mod_eq hn]
    split <;> rfl

theorem Readout.advance_iterate (hne : r.bytes ≠ []) (hfresh : r.pointer = 0) (k : Nat) :
    Readout.advance^[k] r = { r with pointer := Readout.pointerAfter r.bytes.length k } := by
  induction k with
  | zero => rw [Function.iterate_zero_apply]; unfold Readout.pointerAfter; rw [if_pos rfl, ← hfresh]
  | succ k ih =>
    rw [Function.iterate_succ_apply', ih, Readout.pointerAfter_succ (List.length_pos_of_ne_nil hne), Readout.advance,
      if_neg hne]

/-- R190: the byte a read returns with the pointer after `k` reads. -/
theorem Readout.next_pointerAfter (hne : r.bytes ≠ []) (k : Nat) :
    Readout.next { r with pointer := Readout.pointerAfter r.bytes.length k } =
      r.bytes.getD (k % r.bytes.length) 0#8 := by
  have hn := List.length_pos_of_ne_nil hne
  unfold Readout.next
  congr 1
  cases k with
  | zero => simp [Readout.pointerAfter]
  | succ k =>
    simp only [Readout.pointerAfter, Nat.succ_ne_zero, if_false, Nat.add_sub_cancel]
    rw [succ_mod_eq hn]

end

/-- Reads of READOUT one after another move the pointer and leave the transaction at READOUT. -/
theorem afterAll_readout (k : Nat) {s : State} (h : s.readsAt 0x11#6 = true) :
    ∃ t, afterAll (List.replicate k .readout) s = some t ∧ t.readout = Readout.advance^[k] s.readout := by
  induction k generalizing s with
  | zero => exact ⟨s, rfl, rfl⟩
  | succ k ih =>
    simp only [List.replicate_succ, afterAll, exec_readout h, Function.iterate_succ_apply]
    exact ih (s := { s with
      readout := s.readout.advance, port := { s.port with sdo := .shifting s.readout.advance.next } }) h

/-- Settles O5. -/
theorem readoutGoesRound : Obligations.ReadoutGoesRound := by
  refine ⟨fun s h => ⟨fun hempty => ?_, fun hinside => ?_, fun hne hend => ?_⟩, fun k s h hne hfresh => ?_⟩
  · rw [exec_readout h, Readout.advance_empty hempty]
    simp [Readout.next, hempty]
  · exact ⟨_, exec_readout h, by rw [Readout.advance_inside hinside]; rfl⟩
  · exact ⟨_, exec_readout h, by rw [Readout.advance_end hne hend]; rfl⟩
  · obtain ⟨t, hrun, ht⟩ := afterAll_readout k h
    rw [Readout.advance_iterate hne hfresh] at ht
    refine ⟨t, hrun, ?_, ?_⟩
    · change t.readout.next = _
      rw [ht, Readout.next_pointerAfter hne]
    · rw [ht]
      simp only [Readout.left, Readout.pointerAfter]
      split <;> omega

end Sys2Proof.Machine
end

section
/-! PROOFS. Transactions and their bytes (R183 to R185, R188). -/

namespace Sys2Proof.Machine

/-! ### Transactions (R183) -/

theorem State.portLive_eq_true {s : State} (hp : s.powered = true) (hr : s.resetPin = false) : s.portLive = true := by
  rw [State.portLive, hp, hr]; rfl

theorem State.portLive_eq_false {s : State} (h : s.powered = false ∨ s.resetPin = true) : s.portLive = false := by
  rcases h with h | h <;> simp [State.portLive, h]

section
variable {s : State}

theorem exec_transactionStart_fall (h : s.portLive = true) (hm : s.port.mode = .none) :
    exec (.transactionStart none) s = .next (openTransaction s) := by
  change execTransactionStart none s = _
  simp [execTransactionStart, h, hm]

theorem exec_transactionStart_low (hm : s.port.mode ≠ .none) : exec (.transactionStart none) s = .next s := by
  change execTransactionStart none s = _
  simp [execTransactionStart, hm]

theorem exec_transactionStart_first {b : Byte} (h : s.portLive = true) (hm : s.port.mode = .first) :
    exec (.transactionStart (some b)) s = .next (startTransaction b s) := by
  change execTransactionStart (some b) s = _
  simp [execTransactionStart, h, hm]

theorem exec_transactionStart_misplaced {b : Byte} (hm : s.port.mode ≠ .first) :
    exec (.transactionStart (some b)) s = .next s := by
  change execTransactionStart (some b) s = _
  simp [execTransactionStart, hm]

theorem exec_transactionStart_dead (first : Option Byte) (h : s.portLive = false) :
    exec (.transactionStart first) s = .next s := by
  change execTransactionStart first s = _
  cases first <;> simp [execTransactionStart, h]

/-! ### Written bytes (R184, R185) -/

variable {a : Address} {data : Byte}

theorem State.writesAt_iff : s.writesAt a = true ↔ s.portLive = true ∧ s.port.mode = .write ∧ s.port.address = a := by
  simp [State.writesAt, and_assoc]

theorem exec_registerWrite (h : s.writesAt a = true) : exec (.registerWrite data) s = writeDataByte data s := by
  obtain ⟨hlive, hmode, -⟩ := State.writesAt_iff.1 h
  change execRegisterWrite data s = _
  simp [execRegisterWrite, hlive, hmode]

theorem exec_registerWrite_plain (h : s.writesAt a = true)
    (ha : a ∉ [0x02#6, 0x10#6, 0x1A#6, 0x1B#6, 0x1C#6, 0x1D#6]) :
    exec (.registerWrite data) s = .next (writeRegister data s).advancePort := by
  obtain ⟨-, -, rfl⟩ := State.writesAt_iff.1 h
  rw [exec_registerWrite h]
  rcases writeDataByte_cases data s with ⟨e, -⟩ | ⟨e, -⟩ | ⟨e | e, -⟩ | ⟨e | e, -⟩ | ⟨-, e⟩
  case inr.inr.inr.inr => exact e
  all_goals exact absurd (by rw [e]; decide) ha

/-- R185: a byte written to an argument register. -/
theorem exec_registerWrite_argument {i : Fin 12} (h : s.writesAt (BitVec.ofNat 6 (4 + i.val)) = true) :
    exec (.registerWrite data) s = .next
      { s with args := s.args.set i data, port := { s.port with address := BitVec.ofNat 6 (5 + i.val) } } := by
  have hplain : ∀ i : Fin 12, BitVec.ofNat 6 (4 + i.val) ∉ [0x02#6, 0x10#6, 0x1A#6, 0x1B#6, 0x1C#6, 0x1D#6] := by decide
  have hindex : ∀ i : Fin 12, argIndex (BitVec.ofNat 6 (4 + i.val)) = some i := by decide
  have hnext : ∀ i : Fin 12, nextAddress (BitVec.ofNat 6 (4 + i.val)) = BitVec.ofNat 6 (5 + i.val) := by decide
  obtain ⟨-, -, ha⟩ := State.writesAt_iff.1 h
  rw [exec_registerWrite_plain h (hplain i)]
  simp only [writeRegister, State.advancePort, ha, hindex, hnext]

/-- R185: a byte written to a read-only register or to an unassigned address. -/
theorem exec_registerWrite_ignored (h : s.writesAt a = true)
    (ha : (a.toNat < 4 ∧ a ≠ 2#6) ∨ (0x11 ≤ a.toNat ∧ a.toNat < 0x1A) ∨ 0x1E ≤ a.toNat) :
    exec (.registerWrite data) s = .next
      { s with port := { s.port with address := if a = 0x11#6 then a else a + 1#6 } } := by
  have hplain : ∀ a : Address, (a.toNat < 4 ∧ a ≠ 2#6) ∨ (0x11 ≤ a.toNat ∧ a.toNat < 0x1A) ∨ 0x1E ≤ a.toNat →
      a ∉ [0x02#6, 0x10#6, 0x1A#6, 0x1B#6, 0x1C#6, 0x1D#6] ∧ argIndex a = none ∧
        nextAddress a = if a = 0x11#6 then a else a + 1#6 := by decide
  obtain ⟨hplace, hindex, hnext⟩ := hplain a ha
  obtain ⟨-, -, e⟩ := State.writesAt_iff.1 h
  rw [exec_registerWrite_plain h hplace]
  simp only [writeRegister, State.advancePort, e, hindex, hnext]

end

/-! ### Codes written to COMMAND (R188) -/

theorem takeCode_unknown {code : Byte} (h : code ∉ commandCodes) (s : State) :
    takeCode code s = execUnknownCommand code s := by
  have hne (n : Nat) (hn : n < 256) (hmem : BitVec.ofNat 8 n ∈ commandCodes) : code.toNat ≠ n := fun e =>
    h ((Byte.eq_ofNat_iff hn).2 e ▸ hmem)
  unfold takeCode
  split
  case h_26 => rfl
  all_goals exact absurd ‹_› (hne _ (by decide) (by decide))

theorem takeCode_hostCode {c : Instr} {code : Byte} {ends : Bool} (hwell : c.wellFormed = true)
    (h : hostCode c = some (code, ends)) (s : State) : takeCode code s = exec c s := by
  cases c
  case unknownCommand code' =>
    obtain ⟨rfl, -⟩ : code' = code ∧ _ := by simpa [hostCode] using h
    have hmem : code' ∉ commandCodes := by simpa [Instr.wellFormed] using hwell
    exact takeCode_unknown hmem s
  all_goals cases h <;> rfl

/-! ### Read bytes (R184, R185) -/

theorem mem_wideSpan (a x : Address) : x ∈ wideSpan a ↔
    (a ∈ [0x18#6, 0x1A#6, 0x1C#6] ∧ (x = a ∨ x = a + 1#6)) ∨ (a = 0x20#6 ∧ 0x20 ≤ x.toNat ∧ x.toNat ≤ 0x23) := by
  have hofNat (n : Nat) (hn : n < 2 ^ 6) (e : a.toNat = n) : a = BitVec.ofNat 6 n := by
    rw [← e, BitVec.ofNat_toNat, BitVec.setWidth_eq]
  have hfour : ∀ x : Address, x ∈ [0x20#6, 0x21#6, 0x22#6, 0x23#6] ↔ 0x20 ≤ x.toNat ∧ x.toNat ≤ 0x23 := by decide
  unfold wideSpan
  split
  case h_1 e => rw [hofNat _ (by decide) e]; simp
  case h_2 e => rw [hofNat _ (by decide) e]; simp
  case h_3 e => rw [hofNat _ (by decide) e]; simp
  case h_4 e => rw [hofNat _ (by decide) e, hfour]; simp
  case h_5 h1 h2 h3 h4 =>
    have hne : a ≠ 0x18#6 ∧ a ≠ 0x1A#6 ∧ a ≠ 0x1C#6 ∧ a ≠ 0x20#6 :=
      ⟨fun e => h1 (by rw [e]; rfl), fun e => h2 (by rw [e]; rfl), fun e => h3 (by rw [e]; rfl),
        fun e => h4 (by rw [e]; rfl)⟩
    simp [hne]

theorem lookup_append_of_absent {x : Address} {l r : List (Address × Byte)} (h : ∀ y ∈ l, y.1 ≠ x) :
    (l ++ r).lookup x = r.lookup x := by
  induction l with
  | nil => rfl
  | cons y l ih =>
    obtain ⟨a, b⟩ := y
    have hne : (x == a) = false := beq_eq_false_iff_ne.2 (h (a, b) List.mem_cons_self).symm
    rw [List.cons_append, List.lookup_cons, hne]
    exact ih fun z hz => h z (List.mem_cons_of_mem _ hz)

theorem lookup_map_of_mem {x : Address} {l : List Address} {f : Address → Byte} {r : List (Address × Byte)}
    (h : x ∈ l) : ((l.map fun y => (y, f y)) ++ r).lookup x = some (f x) := by
  induction l with
  | nil => cases h
  | cons y l ih =>
    rw [List.map_cons, List.cons_append, List.lookup_cons]
    by_cases e : x = y
    · rw [e, beq_self_eq_true]
    · rw [beq_eq_false_iff_ne.2 e]
      exact ih ((List.mem_cons.1 h).resolve_left e)

/-- R185: a byte of a captured register, read later in the transaction. -/
theorem readAt_captured {s u : State} {a x : Address} {later rest : List (Address × Byte)} (hx : x ∈ wideSpan a)
    (hu : u.port.captured = later ++ (s.capture a ++ rest)) (hlater : ∀ y ∈ later, y.1 ≠ x) :
    u.readAt x = s.register x := by
  rw [State.readAt, hu, lookup_append_of_absent hlater, State.capture, lookup_map_of_mem hx]

section
variable {s : State} {a : Address} (hlive : s.portLive = true) (hmode : s.port.mode = .read)
  (ha : nextAddress s.port.address = a)
include hlive hmode ha

theorem exec_multiByteReadCapture_readout (h : s.port.address = 0x11#6) :
    exec (.multiByteReadCapture a) s = exec .readout s := by
  change execMultiByteReadCapture a s = execReadout s
  simp only [execMultiByteReadCapture, hlive, hmode, ha, beq_self_eq_true, Bool.and_self, if_true]
  rw [if_pos h]

theorem exec_multiByteReadCapture_register (h : s.port.address ≠ 0x11#6) :
    exec (.multiByteReadCapture a) s = .next (finishReadByte s) := by
  change execMultiByteReadCapture a s = _
  simp only [execMultiByteReadCapture, hlive, hmode, ha, h, beq_self_eq_true, Bool.and_self, if_true, if_false]

end

/-- Settles O2. -/
theorem transactionBytes : Obligations.TransactionBytes := by
  refine ⟨fun s hp hr => ?start, fun first s h => exec_transactionStart_dead first (State.portLive_eq_false h),
    fun s => rfl, fun data i s h => exec_registerWrite_argument h, fun data a s h =>
      ⟨exec_registerWrite_ignored h, ?operand, ?events, ?enables⟩,
    fun c code ends s hwell hc hat => ?command, fun a s hp hr hmode => ?read, mem_wideSpan⟩
  case start =>
    have hlive := State.portLive_eq_true hp hr
    refine ⟨fun hm => exec_transactionStart_fall hlive hm, fun hm => exec_transactionStart_low hm, fun first hm =>
      ⟨fun hbit => ?_, fun hbit => ?_⟩, fun first hm => exec_transactionStart_misplaced hm⟩ <;>
      rw [exec_transactionStart_first hlive hm, startTransaction, hbit] <;> rfl
  case command =>
    obtain ⟨-, -, ha⟩ := State.writesAt_iff.1 (show s.writesAt 0x02#6 = true from hat)
    rw [exec_registerWrite hat, ← takeCode_hostCode hwell hc, writeDataByte, ha]
    rfl
  case read =>
    have hlive := State.portLive_eq_true hp hr
    refine ⟨fun h ha => exec_multiByteReadCapture_readout hlive hmode (by rw [h, ha]; rfl) h, fun h ha => ?_⟩
    have hnext : nextAddress s.port.address = a := by rw [ha, nextAddress]; simp [h]
    refine ⟨_, exec_multiByteReadCapture_register hlive hmode hnext h, ?_,
      fun x hx later u hu hlater => readAt_captured (rest := s.port.captured) hx ?_ hlater⟩
    · rw [finishReadByte_eq, hnext, ← hmode]; rfl
    · rw [hu, finishReadByte_eq, hnext]
  all_goals
    intro ha
    obtain ⟨-, -, e⟩ := State.writesAt_iff.1 h
    rw [exec_registerWrite h, writeDataByte, e]
  case operand => rw [ha]; rfl
  case events => rcases ha with rfl | rfl <;> rfl
  case enables => rcases ha with rfl | rfl <;> rfl

end Sys2Proof.Machine
end

section
/-! PROOFS. The register window, EVENTS, EVENT_ENABLE and INT (R186, R187, R192 to R194), and the refusals of the host
commands (R189). -/

namespace Sys2Proof.Machine

/-! ### What the registers show (R186, R187) -/

theorem toNat_pair {n : Nat} (h : n ≤ 16) (x : BitVec n) :
    (x.setWidth 8).toNat + 256 * ((x >>> 8).setWidth 8).toNat = x.toNat := by
  have hx : x.toNat < 2 ^ 16 := x.isLt.trans_le (Nat.pow_le_pow_right (by decide) h)
  simp only [BitVec.toNat_setWidth, BitVec.toNat_ushiftRight, Nat.shiftRight_eq_div_pow]
  omega

theorem Word.toNat_quad (x : Word) :
    (x.setWidth 8).toNat + 256 * ((x >>> 8).setWidth 8).toNat + 65536 * ((x >>> 16).setWidth 8).toNat +
      16777216 * ((x >>> 24).setWidth 8).toNat = x.toNat := by
  have hx := x.isLt
  simp only [BitVec.toNat_setWidth, BitVec.toNat_ushiftRight, Nat.shiftRight_eq_div_pow]
  omega

theorem bitAt_getLsbD (b : Bool) {n i : Nat} (h : i < 8) : (bitAt b n).getLsbD i = (b && decide (n = i)) := by
  cases b
  · simp [bitAt]
  · simp only [bitAt, if_true, BitVec.getLsbD_shiftLeft, h, decide_true, Bool.true_and, BitVec.getLsbD_one]
    by_cases hn : n = i
    · simp [hn]
    · have : ¬(n ≤ i ∧ i - n = 0) := by omega
      simp only [hn, decide_false]
      by_cases hlt : i < n
      · simp [hlt]
      · simp [hlt, show i - n ≠ 0 by omega]

theorem foldl_or_getLsbD {α : Type} {w : Nat} (f : α → BitVec w) (i : Nat) (l : List α) (z : BitVec w) :
    (l.foldl (fun acc c => acc ||| f c) z).getLsbD i = (z.getLsbD i || l.any fun c => (f c).getLsbD i) := by
  induction l generalizing z with
  | nil => simp
  | cons c l ih => rw [List.foldl_cons, ih, BitVec.getLsbD_or, List.any_cons, Bool.or_assoc]

/-- R186: GATES holds one bit for each channel. -/
theorem gates_getLsbD (s : State) (c : Fin 8) : s.gates.getLsbD c.val = s.channels[c].run.gateOpen := by
  rw [State.gates, foldl_or_getLsbD, BitVec.getLsbD_zero, Bool.false_or]
  simp only [bitAt_getLsbD _ c.isLt, Fin.val_inj]
  rw [Bool.eq_iff_iff, List.any_eq_true]
  constructor
  · rintro ⟨c', -, h⟩
    obtain ⟨hopen, hc⟩ : s.channels[c'].run.gateOpen = true ∧ c' = c := by simpa using h
    exact hc ▸ hopen
  · exact fun h => ⟨c, List.mem_finRange c, by simpa using h⟩

theorem stateRegister_toNat (s : State) :
    s.stateRegister.toNat =
      s.device.code.toNat + 4 * s.engine.state.code.toNat + 32 * s.draft.isSome.toNat + 64 * s.pfTaken.toNat := by
  unfold State.stateRegister
  generalize s.draft.isSome = b
  generalize s.pfTaken = p
  cases s.device <;> cases s.engine.state <;> revert b p <;> decide

theorem linesRegister_toNat (s : State) : s.linesRegister.toNat = s.cfgen.toNat + 2 * s.pfail.toNat := by
  unfold State.linesRegister
  cases s.cfgen <;> cases s.pfail <;> rfl

theorem register_argument (s : State) (i : Fin 12) : s.register (BitVec.ofNat 6 (4 + i.val)) = s.args[i] := by
  fin_cases i <;> rfl

theorem register_unassigned (s : State) {a : Address} (h : a = 0x1F#6 ∨ 0x24 ≤ a.toNat) : s.register a = 0x00#8 := by
  rcases h with rfl | h
  · rfl
  · unfold State.register
    split
    all_goals first | omega | rfl

/-! ### Events (R192, R193) -/

theorem Event.bit_lt (e : Event) : e.bit < 11 := by cases e <;> decide

theorem Event.exists_bit {i : Nat} (h : i < 11) : ∃ e : Event, e.bit = i := by
  interval_cases i
  exacts [⟨.completion, rfl⟩, ⟨.journalFull, rfl⟩, ⟨.queueSpace, rfl⟩, ⟨.limit, rfl⟩, ⟨.stray, rfl⟩,
    ⟨.overrun, rfl⟩, ⟨.channelFault, rfl⟩, ⟨.channelClosed, rfl⟩, ⟨.nvFault, rfl⟩, ⟨.pfail, rfl⟩, ⟨.ready, rfl⟩]

theorem clearLatches_getLsbD (high : Bool) (data : Byte) (events : BitVec 11) (e : Event) :
    (clearLatches high data events).getLsbD e.bit =
      (events.getLsbD e.bit &&
        !(if high then decide (8 ≤ e.bit) && data.getLsbD (e.bit - 8) else data.getLsbD e.bit)) := by
  have hb := e.bit_lt
  cases high
  · simp [clearLatches, hb]
  · by_cases h8 : e.bit < 8
    · simp [clearLatches, hb, h8, show ¬8 ≤ e.bit by omega]
    · simp [clearLatches, hb, h8, show 8 ≤ e.bit by omega]

theorem writeEnables_getLsbD (high : Bool) (data : Byte) (enables : BitVec 11) (e : Event) :
    (writeEnables high data enables).getLsbD e.bit =
      if high then (if 8 ≤ e.bit then data.getLsbD (e.bit - 8) else enables.getLsbD e.bit)
      else (if e.bit < 8 then data.getLsbD e.bit else enables.getLsbD e.bit) := by
  cases high <;> cases e <;> simp [writeEnables, Event.bit]

/-- R193: INT is low exactly while some event's latch and enable are both set. -/
theorem events_and_enables_ne_zero (s : State) :
    s.events &&& s.enables ≠ 0 ↔ ∃ e : Event, s.latched e = true ∧ s.enables.getLsbD e.bit = true := by
  constructor
  · intro h
    by_contra hnone
    refine h (BitVec.eq_of_getLsbD_eq fun i hi => ?_)
    obtain ⟨e, rfl⟩ := Event.exists_bit hi
    rw [BitVec.getLsbD_and, BitVec.ofNat_eq_ofNat, BitVec.getLsbD_zero, Bool.and_eq_false_iff]
    by_contra hboth
    simp only [not_or, Bool.not_eq_false] at hboth
    exact hnone ⟨e, hboth⟩
  · rintro ⟨e, hlatch, henable⟩ h
    have hzero : (s.events &&& s.enables).getLsbD e.bit = false := by
      rw [h, BitVec.ofNat_eq_ofNat, BitVec.getLsbD_zero]
    rw [BitVec.getLsbD_and, henable, Bool.and_true] at hzero
    exact Bool.false_ne_true (hzero.symm.trans hlatch)

theorem intLow_iff (s : State) : s.intLow = true ↔
    s.powered = true ∧ s.resetPin = false ∧ ∃ e : Event, s.latched e = true ∧ s.enables.getLsbD e.bit = true := by
  rw [← events_and_enables_ne_zero]
  simp [State.intLow, and_assoc]

section
variable {s : State} {data : Byte} {high : Bool}

theorem exec_events (h : s.writesAt (if high then 0x1B#6 else 0x1A#6) = true) :
    exec (.events data) s = .next
      { s with
        events := if s.takesEventWrites then clearLatches high data s.events else s.events
        port := { s.port with address := if high then 0x1C#6 else 0x1B#6 } } := by
  obtain ⟨-, -, ha⟩ := State.writesAt_iff.1 h
  change execEvents data s = _
  cases high <;> simp only [Bool.false_eq_true, if_true, if_false] at h ha <;>
    simp only [execEvents, h, ha, Bool.true_or, Bool.or_true, if_true] <;> rfl

theorem exec_eventEnable (h : s.writesAt (if high then 0x1D#6 else 0x1C#6) = true) :
    exec (.eventEnable data) s = .next
      { s with
        enables := if s.takesEventWrites then writeEnables high data s.enables else s.enables
        port := { s.port with address := if high then 0x1E#6 else 0x1D#6 } } := by
  obtain ⟨-, -, ha⟩ := State.writesAt_iff.1 h
  change execEventEnable data s = _
  cases high <;> simp only [Bool.false_eq_true, if_true, if_false] at h ha <;>
    simp only [execEventEnable, h, ha, Bool.true_or, Bool.or_true, if_true] <;> rfl

theorem takesEventWrites_starting (h : s.device = .starting) : s.takesEventWrites = false := by
  rw [State.takesEventWrites, h]; rfl

theorem takesEventWrites_running (h : s.device ≠ .starting) : s.takesEventWrites = true := by
  simpa [State.takesEventWrites] using h

end

/-- Settles O6. -/
theorem eventsAndInterrupt : Obligations.EventsAndInterrupt := by
  refine ⟨fun s => ⟨rfl, stateRegister_toNat s, rfl, rfl, register_argument s, rfl, fun hlen => ?left, rfl, ?free, ?legs,
      fun hlen => ?journal, gates_getLsbD s, toNat_pair (by decide) _, toNat_pair (by decide) _,
      toNat_pair (by decide) _, linesRegister_toNat s, Word.toNat_quad _, fun a h => register_unassigned s h⟩,
    by decide, by decide, by decide, by decide, fun high data s => ⟨fun h => ?events, fun h => ?enables⟩, intLow_iff⟩
  case left =>
    change (byteOf s.readout.left).toNat = _
    rw [BitVec.toNat_ofNat, Nat.mod_eq_of_lt (by unfold Readout.left; omega)]
    rfl
  case free =>
    change (byteOf s.queue.free).toNat = _
    rw [BitVec.toNat_ofNat, Nat.mod_eq_of_lt (by unfold Queue.free; rw [Config.queueCapacity]; omega)]
    rfl
  case legs =>
    change (byteOf s.queue.legsFree).toNat = _
    rw [BitVec.toNat_ofNat, Nat.mod_eq_of_lt (by unfold Queue.legsFree; rw [Config.legPool]; omega)]
    rfl
  case journal =>
    change (byteOf s.journalCount).toNat = _
    exact (BitVec.toNat_ofNat _ _).trans (Nat.mod_eq_of_lt hlen)
  case events =>
    refine ⟨_, exec_events h, rfl, fun hd => ?_, fun hd e => ?_⟩
    · simp only [takesEventWrites_starting hd, Bool.false_eq_true, if_false]
    · simp only [takesEventWrites_running hd, if_true, State.latched]
      exact clearLatches_getLsbD high data s.events e
  case enables =>
    refine ⟨_, exec_eventEnable h, rfl, fun hd => ?_, fun hd e => ?_⟩
    · simp only [takesEventWrites_starting hd, Bool.false_eq_true, if_false]
    · simp only [takesEventWrites_running hd, if_true]
      exact writeEnables_getLsbD high data s.enables e

/-! ### The refusals of host commands (R189, R119) -/

/-- Every host command is taken at COMMAND with its code. -/
theorem exec_eq_takeCommand {c : Instr} {code : Byte} {ends : Bool} (hwell : c.wellFormed = true)
    (h : hostCode c = some (code, ends)) : ∃ run, ∀ s, exec c s = takeCommand code ends run s := by
  cases c
  case unknownCommand code' =>
    obtain ⟨rfl, rfl⟩ : code' = code ∧ false = ends := by simpa [hostCode] using h
    have hknown : commandCodes.contains code' = false := by simpa [Instr.wellFormed] using hwell
    refine ⟨refuse .unknownCommand, fun s => ?_⟩
    change execUnknownCommand code' s = _
    simp only [execUnknownCommand, hknown, Bool.false_eq_true, if_false]
  all_goals cases h <;> exact ⟨_, fun _ => rfl⟩

section
variable {c : Instr} {code : Byte} {ends : Bool} (h : hostCode c = some (code, ends))
include h

theorem exec_of_work (hc : c ∈ [.openDraft, .leg, .field, .submit, .writePending]) :
    ∃ run, ∀ s, exec c s = takeCommand code ends (whenReady run) s := by
  simp only [List.mem_cons, List.not_mem_nil, or_false] at hc
  rcases hc with rfl | rfl | rfl | rfl | rfl <;> cases h <;> exact ⟨_, fun _ => rfl⟩

theorem exec_of_service (hc : c ∈ [.cancel, .foldNow, .clearFault]) :
    ∃ run, ∀ s, exec c s = takeCommand code ends (onlyServing run) s := by
  simp only [List.mem_cons, List.not_mem_nil, or_false] at hc
  rcases hc with rfl | rfl | rfl <;> cases h <;> exact ⟨_, fun _ => rfl⟩

theorem exec_of_upkeep (hc : c ∈ [.pop, .pin, .unpin, .softReset, .gateOpen, .gateClose, .ackStray]) :
    ∃ run, ∀ s, exec c s = takeCommand code ends (unlessPowerFail run) s := by
  simp only [List.mem_cons, List.not_mem_nil, or_false] at hc
  rcases hc with rfl | rfl | rfl | rfl | rfl | rfl | rfl <;> cases h <;> exact ⟨_, fun _ => rfl⟩

theorem exec_of_acks (hc : c ∈ [.discard, .ackStatus]) :
    ∃ run, ∀ s, exec c s = takeCommand code ends (unlessPowerdown run) s := by
  simp only [List.mem_cons, List.not_mem_nil, or_false] at hc
  rcases hc with rfl | rfl <;> cases h <;> exact ⟨_, fun _ => rfl⟩

end

/-- A command whose work, on the state with its code shown, answers `r` and changes nothing more. -/
theorem takeCommand_refused {s : State} {code : Byte} {ends : Bool} {r : ResultCode}
    {run : State → State × ResultCode} (ha : s.AtCommand) (hd : s.device ≠ .starting)
    (hrun : run (s.shown code ends) = (s.shown code ends, r)) :
    takeCommand code ends run s = .next (s.replied code ends r) := by
  rw [takeCommand_run ha hd, show run { s with command := code, operand := _ } = (s.shown code ends, r) from hrun]
  exact congrArg _ (refuse_replied r s code ends)

section
variable {s : State} {run : State → State × ResultCode}

theorem whenReady_halted (h : s.device = .halted) : whenReady run s = (s, .halted) := by simp [whenReady, h, refuse]
theorem whenReady_powerdown (h : s.device = .powerdown) : whenReady run s = (s, .powerdown) := by
  simp [whenReady, h, refuse]
theorem unlessPowerFail_powerdown (h : s.device = .powerdown) : unlessPowerFail run s = (s, .powerdown) := by
  simp [unlessPowerFail, h, refuse]
theorem unlessPowerFail_taken (h : s.device = .ready) (hp : s.pfTaken = true) :
    unlessPowerFail run s = (s, .powerdown) := by simp [unlessPowerFail, h, hp, refuse]
theorem onlyServing_halted (h : s.device = .halted) : onlyServing run s = (s, .halted) := by
  simp [onlyServing, h, refuse]
theorem onlyServing_powerdown (h : s.device = .powerdown) : onlyServing run s = (s, .powerdown) := by
  simp [onlyServing, h, refuse]
theorem onlyServing_taken (h : s.device = .ready) (hp : s.pfTaken = true) : onlyServing run s = (s, .powerdown) := by
  simp [onlyServing, h, hp, refuse]

theorem onChannel_misnamed (h : 7 < s.args[0].toNat) (run : Fin 8 → State → State × ResultCode) :
    onChannel run s = (s, .badArgument) := by simp only [onChannel, indexArg_eq_none (n := 8).2 h, refuse]

end

/-- Settles O7, by the device-state test of each command. -/
theorem hostCommandsRefused : Obligations.HostCommandsRefused := by
  refine ⟨fun c code ends s hwell hc ha hd => ?starting, fun code s hunknown ha hd => ?unknown,
    fun c code ends s hc ha => ⟨fun hd hmem => ?halted, fun hd hmem => ?powerdown, fun hd hp hmem => ?powerFail⟩,
    fun s hbad => ⟨fun hup => ?upkeep, fun hserve => ?service⟩⟩
  case starting =>
    obtain ⟨run, hrun⟩ := exec_eq_takeCommand hwell hc
    rw [hrun, takeCommand_starting ha hd]
  case unknown =>
    have hknown : commandCodes.contains code = false := by simpa using hunknown
    change execUnknownCommand code s = _
    simp only [execUnknownCommand, hknown, Bool.false_eq_true, if_false]
    exact takeCommand_refused (ends := false) ha hd rfl
  case halted =>
    have hd' : s.device ≠ .starting := by rw [hd]; decide
    have hmem' : c ∈ [.openDraft, .leg, .field, .submit, .writePending] ∨ c ∈ [.cancel, .foldNow, .clearFault] :=
      List.mem_append.1 hmem
    rcases hmem' with hmem | hmem
    · obtain ⟨run, hrun⟩ := exec_of_work hc hmem
      rw [hrun, takeCommand_refused ha hd' (whenReady_halted (s := s.shown code ends) hd)]
    · obtain ⟨run, hrun⟩ := exec_of_service hc hmem
      rw [hrun, takeCommand_refused ha hd' (onlyServing_halted (s := s.shown code ends) hd)]
  case powerdown =>
    have hd' : s.device ≠ .starting := by rw [hd]; decide
    have hmem' : c ∈ [.openDraft, .leg, .field, .submit, .writePending] ∨ c ∈ [.discard, .ackStatus] ∨
        c ∈ [.pop, .pin, .unpin, .softReset, .gateOpen, .gateClose, .ackStray] ∨
        c ∈ [.cancel, .foldNow, .clearFault] := by
      simp only [List.mem_cons, List.not_mem_nil, or_false] at hmem ⊢
      tauto
    rcases hmem' with hmem | hmem | hmem | hmem
    · obtain ⟨run, hrun⟩ := exec_of_work hc hmem
      rw [hrun, takeCommand_refused ha hd' (whenReady_powerdown (s := s.shown code ends) hd)]
    · obtain ⟨run, hrun⟩ := exec_of_acks hc hmem
      rw [hrun, takeCommand_refused ha hd' (unlessPowerdown_powerdown (s := s.shown code ends) hd run)]
    · obtain ⟨run, hrun⟩ := exec_of_upkeep hc hmem
      rw [hrun, takeCommand_refused ha hd' (unlessPowerFail_powerdown (s := s.shown code ends) hd)]
    · obtain ⟨run, hrun⟩ := exec_of_service hc hmem
      rw [hrun, takeCommand_refused ha hd' (onlyServing_powerdown (s := s.shown code ends) hd)]
  case powerFail =>
    have hd' : s.device ≠ .starting := by rw [hd]; decide
    have hmem' : c ∈ [.pop, .pin, .unpin, .softReset, .gateOpen, .gateClose, .ackStray] ∨
        c ∈ [.cancel, .foldNow, .clearFault] := by
      simp only [List.mem_cons, List.not_mem_nil, or_false] at hmem ⊢
      tauto
    rcases hmem' with hmem | hmem
    · obtain ⟨run, hrun⟩ := exec_of_upkeep hc hmem
      rw [hrun, takeCommand_refused ha hd' (unlessPowerFail_taken (s := s.shown code ends) hd hp)]
    · obtain ⟨run, hrun⟩ := exec_of_service hc hmem
      rw [hrun, takeCommand_refused ha hd' (onlyServing_taken (s := s.shown code ends) hd hp)]
  case upkeep =>
    have hrefused (code : Byte) (run : Fin 8 → State → State × ResultCode) :
        takeCommand code false (unlessPowerFail (onChannel run)) s = .next (s.answered code .badArgument) := by
      rw [takesUpkeep_run hup, onChannel_misnamed (s := { s with command := code }) hbad]
      rfl
    exact ⟨hrefused 0x10 _, hrefused 0x11 _, hrefused 0x14 _⟩
  case service =>
    have hrefused (code : Byte) (run : Fin 8 → State → State × ResultCode) :
        takeCommand code false (onlyServing (onChannel run)) s = .next (s.answered code .badArgument) := by
      rw [takesService_run hserve, onChannel_misnamed (s := { s with command := code }) hbad]
      rfl
    exact ⟨hrefused 0x12 _, hrefused 0x13 _⟩

end Sys2Proof.Machine
end

section
/-! PROOFS. POP and the pins (R148, R159, R160), the resets and the supply (R113, R174, R175), GATE_CLOSE and
CLEAR_FAULT (R125, R127), and the edges (R120 to R122). -/

namespace Sys2Proof.Machine

/-! ### POP, PIN and UNPIN (R148, R159, R160) -/

section
variable {s : State}

theorem popRun_of_empty (h : s.journal.entries = []) : popRun s = (s, .wrongState) := by simp only [popRun, h, refuse]

/-- R112, R148: the engine of a HELD part is IDLE again when 30 entries or fewer are left. -/
theorem popRun_of_entry {e : JournalEntry} {rest : List JournalEntry} (h : s.journal.entries = e :: rest) :
    popRun s =
      ({ s with
        journal := { counter := s.journal.counter, head := s.journal.head + 1, entries := rest }
        engine := { s.engine with state :=
          if s.engine.state = .held ∧ rest.length ≤ 30 then .idle else s.engine.state } }, .ok) := by
  have hheld : ∀ n : Nat, n < Config.heldAt ↔ n ≤ 30 := fun n => by rw [Config.heldAt]; omega
  simp only [popRun, h, endHeld, State.journalCount, hheld]
  split <;> rfl

theorem pinRun_of_misnamed (h : 3 < s.args[0].toNat) : pinRun s = (s, .badArgument) := by
  simp only [pinRun, indexArg_eq_none (n := 4).2 h, refuse]

theorem unpinRun_of_misnamed (h : 3 < s.args[0].toNat) : unpinRun s = (s, .badArgument) := by
  simp only [unpinRun, indexArg_eq_none (n := 4).2 h, refuse]

variable {i : Fin 4} (hi : s.args[0].toNat = i.val)
include hi

theorem pinRun_of_empty (h : s.checkpoints.slots[i].content = none) : pinRun s = (s, .wrongState) := by
  simp only [pinRun, indexArg_of_eq hi, h, Option.isNone_none, if_true, refuse]

theorem unpinRun_of_empty (h : s.checkpoints.slots[i].content = none) : unpinRun s = (s, .wrongState) := by
  simp only [unpinRun, indexArg_of_eq hi, h, Option.isNone_none, if_true, refuse]

variable (hfilled : s.checkpoints.slots[i].content.isSome = true)
include hfilled

theorem filled_not_none : s.checkpoints.slots[i].content.isNone = false := by
  rw [Option.isNone_eq_false_iff]; exact hfilled

theorem pinRun_of_chosen (h : s.checkpoints.slots[i].inFlight = true) : pinRun s = (s, .tooLate) := by
  simp only [pinRun, indexArg_of_eq hi, filled_not_none hi hfilled, h, Bool.false_eq_true, if_true, if_false, refuse]

theorem pinRun_of_filled (h : s.checkpoints.slots[i].inFlight = false) : pinRun s = (setPin i true s, .ok) := by
  simp only [pinRun, indexArg_of_eq hi, filled_not_none hi hfilled, h, Bool.false_eq_true, if_false]

theorem unpinRun_of_filled : unpinRun s = (setPin i false s, .ok) := by
  simp only [unpinRun, indexArg_of_eq hi, filled_not_none hi hfilled, Bool.false_eq_true, if_false]

end

section
variable {s t : State} {r : ResultCode} (hup : s.TakesUpkeep)
include hup

theorem exec_pop (h : popRun { s with command := 0x09 } = (t, r)) : exec .pop s = .next { t with result := r } := by
  change takeCommand 0x09 false (unlessPowerFail popRun) s = _
  rw [takesUpkeep_run hup, h]

theorem exec_pin (h : pinRun { s with command := 0x0A } = (t, r)) : exec .pin s = .next { t with result := r } := by
  change takeCommand 0x0A false (unlessPowerFail pinRun) s = _
  rw [takesUpkeep_run hup, h]

theorem exec_unpin (h : unpinRun { s with command := 0x0B } = (t, r)) :
    exec .unpin s = .next { t with result := r } := by
  change takeCommand 0x0B false (unlessPowerFail unpinRun) s = _
  rw [takesUpkeep_run hup, h]

end

/-- Settles O19. -/
theorem popAndPins : Obligations.PopAndPins := by
  refine ⟨fun s hup => ⟨fun hempty => exec_pop hup (popRun_of_empty (s := { s with command := 0x09 }) hempty),
      fun e rest h => exec_pop hup (popRun_of_entry (s := { s with command := 0x09 }) h)⟩,
    fun s hup => ⟨fun hbad => ⟨exec_pin hup (pinRun_of_misnamed (s := { s with command := 0x0A }) hbad),
        exec_unpin hup (unpinRun_of_misnamed (s := { s with command := 0x0B }) hbad)⟩,
      fun i hi => ⟨fun hempty => ⟨exec_pin hup (pinRun_of_empty (s := { s with command := 0x0A }) hi hempty),
        exec_unpin hup (unpinRun_of_empty (s := { s with command := 0x0B }) hi hempty)⟩, fun hfilled => ?_⟩⟩⟩
  refine ⟨fun hchosen => exec_pin hup (pinRun_of_chosen (s := { s with command := 0x0A }) hi hfilled hchosen),
    fun hfree => ?pinned, exec_unpin hup (unpinRun_of_filled (s := { s with command := 0x0B }) hi hfilled)⟩
  case pinned =>
    rw [exec_pin hup (pinRun_of_filled (s := { s with command := 0x0A }) hi hfilled hfree), ← hfree]
    rfl

/-! ### Resets and the supply (R113, R174, R175) -/

theorem beginStartup_eq (s : State) : beginStartup s = s.restarted s.port := rfl

section
variable {s : State}

theorem State.cutArray_idle (hc : s.commit = none) (hs : s.startup = none) (written : Bool) :
    s.cutArray written = s.nv := by rw [State.cutArray, hc, hs]

theorem State.cutArray_commit {c : Commit} (hc : s.commit = some c) (hs : s.startup = none) (written : Bool) :
    s.cutArray written = s.nv.breakCommit written c := by rw [State.cutArray, hc, hs]

theorem State.cutArray_startup {j : Startup} (hc : s.commit = none) (hs : s.startup = some j) (written : Bool) :
    s.cutArray written = s.nv.breakStartup written j := by rw [State.cutArray, hc, hs]

theorem exec_resetLineAssertion (hp : s.powered = true) (hr : s.resetPin = false) (written : Bool) :
    exec (.resetLineAssertion written) s = .next
      (State.cleared (s.cutArray written) Port.closed s.cfgen s.pfail true true s.pending s.freeCount) := by
  change execResetLineAssertion written s = _
  simp only [execResetLineAssertion, hp, hr, Bool.not_true, Bool.or_self, Bool.false_eq_true, if_false, cutWrites_eq]
  rw [← hp]
  rfl

theorem exec_resetLineRelease (hp : s.powered = true) (hr : s.resetPin = true) (cfgen pfail : Bool) :
    exec (.resetLineRelease cfgen pfail) s = .next
      ({ s with cfgen := cfgen, pfail := pfail, resetPin := false }.restarted s.port) := by
  change execResetLineRelease cfgen pfail s = _
  simp only [execResetLineRelease, hp, hr, Bool.not_true, Bool.or_self, Bool.false_eq_true, if_false]
  rfl

theorem exec_powerLoss (hp : s.powered = true) (written : Bool) :
    exec (.powerLoss written) s = .next
      { s with nv := s.cutArray written, commit := none, startup := none, powered := false, port := Port.closed } := by
  change execPowerLoss written s = _
  simp only [execPowerLoss, hp, if_true, cutWrites_eq]

theorem exec_powerOn (hp : s.powered = false) (cfgen pfail : Bool) :
    exec (.powerOn cfgen pfail) s = .next
      ({ s with cfgen := cfgen, pfail := pfail, resetPin := false, powered := true }.restarted Port.closed) := by
  change execPowerOn cfgen pfail s = _
  simp only [execPowerOn, hp, Bool.false_eq_true, if_false]
  rfl

theorem softResetRun_deferred (h : s.engine.state = .persisting) :
    softResetRun s = ({ s with engine := { s.engine with deferredReset := true } }, .ok) := by
  simp only [softResetRun, h, if_true]

theorem softResetRun_atOnce (h : s.engine.state ≠ .persisting) : softResetRun s = (s.restarted s.port, .ok) := by
  simp only [softResetRun, if_neg h]
  rfl

theorem exec_softReset {t : State} {r : ResultCode} (hup : s.TakesUpkeep)
    (h : softResetRun { s with command := 0x3F } = (t, r)) : exec .softReset s = .next { t with result := r } := by
  change takeCommand 0x3F false (unlessPowerFail softResetRun) s = _
  rw [takesUpkeep_run hup, h]

end

/-- Settles O20. -/
theorem resetsAndSupply : Obligations.ResetsAndSupply := by
  refine ⟨fun s hup => ⟨fun h => exec_softReset hup (softResetRun_atOnce (s := { s with command := 0x3F }) h),
      fun h => exec_softReset hup (softResetRun_deferred (s := { s with command := 0x3F }) h)⟩,
    fun written s hp hr hc hs => ?_, fun written c s hp hr hc hs => ?_, fun written j s hp hr hc hs => ?_,
    fun cfgen pfail s hp hr => exec_resetLineRelease hp hr cfgen pfail, fun written s hp hc hs => ?_,
    fun written c s hp hc hs => ?_, fun written j s hp hc hs => ?_,
    fun cfgen pfail s hp => exec_powerOn hp cfgen pfail⟩
  · rw [exec_resetLineAssertion hp hr, State.cutArray_idle hc hs]
  · rw [exec_resetLineAssertion hp hr, State.cutArray_commit hc hs]
  · rw [exec_resetLineAssertion hp hr, State.cutArray_startup hc hs]
  · rw [exec_powerLoss hp, State.cutArray_idle hc hs, ← hc, ← hs]
  · rw [exec_powerLoss hp, State.cutArray_commit hc hs, ← hs]
  · rw [exec_powerLoss hp, State.cutArray_startup hc hs, ← hc]

/-! ### GATE_CLOSE and CLEAR_FAULT (R125, R127) -/

section
variable {c : Fin 8} {s : State}

theorem setChannel_eq_withRun {x : Channel} (h : x.config = s.channels[c].config) :
    setChannel c x s = s.withRun c x.run := by
  rw [State.withRun, ← h]; rfl

theorem exec_gateClose {t : State} {r : ResultCode} (hup : s.TakesUpkeep) (hc : s.args[0].toNat = c.val)
    (hrun : gateCloseRun c { s with command := 0x11 } = (t, r)) : exec .gateClose s = .next { t with result := r } :=
  takesUpkeep_onChannel hup hc hrun

theorem gateCloseRun_of_disabled (h : s.channels[c].run.state = .disabled) : gateCloseRun c s = (s, .wrongState) := by
  simp only [gateCloseRun, h, refuse]

theorem gateCloseRun_of_closed (h : s.channels[c].run.state = .idle ∨ s.channels[c].run.state = .draining) :
    gateCloseRun c s = (s, .ok) := by
  rcases h with h | h <;> simp only [gateCloseRun, h]

theorem gateCloseRun_of_nothing_left (h : s.channels[c].run.state = .counting)
    (hcount : s.channels[c].run.unfolded = 0) (hflight : s.channels[c].run.inFlight = none) :
    gateCloseRun c s =
      ((s.withRun c { s.channels[c].run with state := .idle, gateOpen := false }).raised .channelClosed, .ok) := by
  simp only [gateCloseRun, h, hcount, hflight, and_self, if_true]
  rfl

theorem gateCloseRun_of_draining (h : s.channels[c].run.state = .counting)
    (hleft : 0 < s.channels[c].run.unfolded ∨ s.channels[c].run.inFlight.isSome = true) :
    gateCloseRun c s =
      (s.withRun c
        { s.channels[c].run with
          state := .draining
          gateOpen := false
          request := s.channels[c].run.request ||
            (s.channels[c].run.inFlight.isNone && !s.pfTaken && decide (0 < s.channels[c].run.unfolded)) }, .ok) := by
  have hsome : ¬(s.channels[c].run.unfolded = 0 ∧ s.channels[c].run.inFlight = none) := by
    rintro ⟨h0, hn⟩
    rcases hleft with hl | hl
    · omega
    · rw [hn] at hl; cases hl
  have hstates : (ChannelState.draining == ChannelState.counting) = false := rfl
  simp only [gateCloseRun, h, if_neg hsome, raiseRequest_eq]
  rw [setChannel_eq_withRun]
  · simp [hstates]
  · rfl

theorem gateCloseRun_of_faulted (h : s.channels[c].run.state = .faulted) :
    gateCloseRun c s = (s.withRun c { s.channels[c].run with gateOpen := false }, .ok) := by
  simp only [gateCloseRun, h, setRun_eq_withRun]

end

/-- Settles O22, by the channel's state. -/
theorem gateCloseByState : Obligations.GateCloseByState := by
  intro c s hup hc r
  refine ⟨fun h => exec_gateClose hup hc (gateCloseRun_of_disabled h),
    fun h => exec_gateClose hup hc (gateCloseRun_of_closed h),
    fun h hcount hflight => exec_gateClose hup hc (gateCloseRun_of_nothing_left h hcount hflight),
    fun h hleft => exec_gateClose hup hc (gateCloseRun_of_draining h hleft),
    fun h => exec_gateClose hup hc (gateCloseRun_of_faulted h)⟩

section
variable {c : Fin 8} {s : State}

theorem exec_clearFault {t : State} {r : ResultCode} (hserves : s.TakesService) (hc : s.args[0].toNat = c.val)
    (hrun : clearFaultRun c { s with command := 0x13 } = (t, r)) :
    exec .clearFault s = .next { t with result := r } :=
  takesService_onChannel hserves hc hrun

theorem clearFaultRun_of_sound (h : s.channels[c].run.state ≠ .faulted) : clearFaultRun c s = (s, .wrongState) := by
  simp only [clearFaultRun, if_pos h, refuse]

variable (hstate : s.channels[c].run.state = .faulted) (hpf : s.pfTaken = false)
include hstate

theorem clearFaultRun_of_nothing_left (hgate : s.channels[c].run.gateOpen = false)
    (hcount : s.channels[c].run.unfolded = 0) :
    clearFaultRun c s = ((s.withRun c { s.channels[c].run with state := .idle }).raised .channelClosed, .ok) := by
  simp only [clearFaultRun, hstate, hgate, hcount, ne_eq, not_true, Bool.false_eq_true, if_false, lt_irrefl]
  rfl

include hpf

theorem clearFaultRun_of_open (hgate : s.channels[c].run.gateOpen = true) :
    clearFaultRun c s =
      (s.withRun c
        { s.channels[c].run with
          state := .counting
          request := s.channels[c].run.request || (s.channels[c].run.inFlight.isNone &&
            decide (s.channels[c].config.threshold ≤ s.channels[c].run.unfolded)) }, .ok) := by
  have hstates : (ChannelState.counting == ChannelState.draining) = false := rfl
  simp only [clearFaultRun, hstate, hgate, hpf, ne_eq, not_true, if_true, if_false, raiseRequest_eq]
  rw [setChannel_eq_withRun]
  · simp [hstates]
  · rfl

theorem clearFaultRun_of_count (hgate : s.channels[c].run.gateOpen = false) (hcount : 0 < s.channels[c].run.unfolded) :
    clearFaultRun c s =
      (s.withRun c
        { s.channels[c].run with
          state := .draining
          request := s.channels[c].run.request || s.channels[c].run.inFlight.isNone }, .ok) := by
  simp only [clearFaultRun, hstate, hgate, hpf, hcount, ne_eq, not_true, Bool.false_eq_true, if_true, if_false,
    raiseRequest_eq]
  rw [setChannel_eq_withRun]
  · simp
  · rfl

end

/-- Settles O24, by the state, the gate and the count. -/
theorem clearFaultByGate : Obligations.ClearFaultByGate := by
  intro c s hserves hc r
  have hpf : s.pfTaken = false := hserves.2.2
  refine ⟨fun h => exec_clearFault hserves hc (clearFaultRun_of_sound h), fun h hgate => ?opened,
    fun h hgate hcount => ?counted, fun h hgate hcount => ?nothing⟩
  case opened => exact exec_clearFault hserves hc (clearFaultRun_of_open (s := { s with command := 0x13 }) h hpf hgate)
  case counted =>
    exact exec_clearFault hserves hc (clearFaultRun_of_count (s := { s with command := 0x13 }) h hpf hgate hcount)
  case nothing =>
    exact exec_clearFault hserves hc (clearFaultRun_of_nothing_left (s := { s with command := 0x13 }) h hgate hcount)

/-! ### Edges (R120 to R122) -/

theorem edgeAccepted_iff {s : State} {c : Fin 8} {rising : Bool} {time : Nat} :
    (s.acceptsEdges && s.channels[c].accepts rising time) = true ↔ s.EdgeAccepted c rising time := by
  have hselects (e : EdgeSelect) : e.selects rising = true ↔
      e = .both ∨ (e = .rising ∧ rising = true) ∨ (e = .falling ∧ rising = false) := by
    cases e <;> cases rising <;> decide
  have hspaced (ch : Channel) : ch.spaced time = true ↔ ch.config.spacing = 0 ∨ ch.run.lastEdge = none ∨
      ∃ last, ch.run.lastEdge = some last ∧ last + 10 * ch.config.spacing ≤ time := by
    unfold Channel.spaced
    cases ch.run.lastEdge <;> simp
  simp only [State.acceptsEdges, Channel.accepts, State.EdgeAccepted, Bool.and_eq_true, Bool.or_eq_true, beq_iff_eq,
    bne_iff_ne, Bool.not_eq_true', hselects, hspaced, and_assoc, ne_eq]

section
variable {s : State} {c : Fin 8} {rising : Bool} {time : Nat}

theorem exec_edge_refused (h : ¬s.EdgeAccepted c rising time) : exec (.edge c rising time) s = .next s := by
  change execEdge c rising time s = _
  rw [execEdge, if_neg (edgeAccepted_iff.not.2 h)]

/-- R122: whether a fold request stands after an edge that leaves this many unfolded. -/
def Channel.requestAfter (ch : Channel) (n : Nat) : Bool :=
  ch.run.request || (ch.run.inFlight.isNone &&
    ((ch.run.state == .counting && decide (ch.config.threshold ≤ n)) ||
      (ch.run.state == .draining && decide (0 < n))))

/-- R121, R122: an accepted edge. -/
theorem exec_edge_taken (h : s.EdgeAccepted c rising time) {r : ChannelRun} {e : Option Event}
    (hcount : s.channels[c].run.countEdge time = (r, e)) (hstate : r.state = s.channels[c].run.state)
    (hrequest : r.request = s.channels[c].run.request) (hflight : r.inFlight = s.channels[c].run.inFlight) :
    exec (.edge c rising time) s = .next
      (let t := s.withRun c { r with request := s.channels[c].requestAfter r.unfolded }
       match e with
       | some e => t.raised e
       | none => t) := by
  have hpf : s.pfTaken = false := h.2.2.1
  change execEdge c rising time s = _
  rw [execEdge, if_pos (edgeAccepted_iff.2 h), acceptEdge]
  simp only [hcount, raiseRequest_eq, hstate, hrequest, hflight, hpf, Bool.not_false, Bool.and_true]
  rw [setChannel_eq_withRun]
  · cases e <;> rfl
  · rfl

end

section
variable {r : ChannelRun} {time : Nat}

theorem countEdge_counted (hc : r.counts = true) (h : r.unfolded < 65535) :
    r.countEdge time = ({ r with lastEdge := some time, unfolded := r.unfolded + 1 }, none) := by
  obtain ⟨-, -, e⟩ | ⟨-, hfull, -⟩ | ⟨hs, -⟩ | ⟨hs, -⟩ := countEdge_cases r time
  · exact e
  · exact absurd h (not_lt.2 hfull)
  all_goals exact absurd (hs.symm.trans hc) Bool.false_ne_true

theorem countEdge_lost (hc : r.counts = true) (h : r.unfolded = 65535) :
    r.countEdge time = ({ r with lastEdge := some time, overrun := true }, some .overrun) := by
  obtain ⟨-, hroom, -⟩ | ⟨-, -, e⟩ | ⟨hs, -⟩ | ⟨hs, -⟩ := countEdge_cases r time
  · exact absurd hroom (by rw [h]; decide)
  · exact e
  all_goals exact absurd (hs.symm.trans hc) Bool.false_ne_true

theorem countEdge_stray (hc : r.counts = false) (h : r.stray < 65535) :
    r.countEdge time = ({ r with lastEdge := some time, stray := r.stray + 1 }, some .stray) := by
  obtain ⟨hs, -⟩ | ⟨hs, -⟩ | ⟨-, -, e⟩ | ⟨-, hfull, -⟩ := countEdge_cases r time
  · exact absurd (hc.symm.trans hs) Bool.false_ne_true
  · exact absurd (hc.symm.trans hs) Bool.false_ne_true
  · exact e
  · exact absurd h (not_lt.2 hfull)

theorem countEdge_stray_full (hc : r.counts = false) (h : r.stray = 65535) :
    r.countEdge time = ({ r with lastEdge := some time }, some .stray) := by
  obtain ⟨hs, -⟩ | ⟨hs, -⟩ | ⟨-, hroom, -⟩ | ⟨-, -, e⟩ := countEdge_cases r time
  · exact absurd (hc.symm.trans hs) Bool.false_ne_true
  · exact absurd (hc.symm.trans hs) Bool.false_ne_true
  · exact absurd hroom (by rw [h]; decide)
  · exact e

end

theorem counts_of_gate_open {r : ChannelRun} (h : r.state = .counting ∨ (r.state = .faulted ∧ r.gateOpen = true)) :
    r.counts = true := by
  rcases h with h | ⟨h, hg⟩
  · simp [ChannelRun.counts, h]
  · simp [ChannelRun.counts, h, hg]

theorem counts_of_gate_shut {r : ChannelRun}
    (h : r.state = .idle ∨ r.state = .draining ∨ (r.state = .faulted ∧ r.gateOpen = false)) : r.counts = false := by
  rcases h with h | h | ⟨h, hg⟩
  · rw [ChannelRun.counts, h]; rfl
  · rw [ChannelRun.counts, h]; rfl
  · rw [ChannelRun.counts, hg, h]; rfl

/-- Settles O26, by the gate and the count that the edge goes to. -/
theorem edgeCounted : Obligations.EdgeCounted := by
  intro c rising time s
  refine ⟨exec_edge_refused, fun h => ⟨fun hopen => ⟨fun hroom => ?counted, fun hfull => ?lost⟩,
    fun hshut => ⟨fun hroom => ?stray, fun hfull => ?strayLost⟩⟩⟩
  case counted => exact exec_edge_taken h (countEdge_counted (counts_of_gate_open hopen) hroom) rfl rfl rfl
  case lost =>
    rw [exec_edge_taken h (countEdge_lost (counts_of_gate_open hopen) hfull) rfl rfl rfl]
    simp only [hfull]
    rfl
  case stray => exact exec_edge_taken h (countEdge_stray (counts_of_gate_shut hshut) hroom) rfl rfl rfl
  case strayLost => exact exec_edge_taken h (countEdge_stray_full (counts_of_gate_shut hshut) hfull) rfl rfl rfl

end Sys2Proof.Machine
end

section
/-! PROOFS. The LOAD commands (R191). -/

namespace Sys2Proof.Machine

section
variable {s : State}

theorem loadTotaliserRun_of_index {t : Fin 64} (h : s.args[0].toNat = t.val) :
    loadTotaliserRun s = loadRecord 1#8 (totaliserRecord t s.totals[t]) s := by
  simp only [loadTotaliserRun, indexArg_of_eq h]

theorem loadTotaliserRun_of_misnamed (h : 63 < s.args[0].toNat) : loadTotaliserRun s = (s, .badArgument) := by
  simp only [loadTotaliserRun, indexArg_eq_none (n := 64).2 h, refuse]

theorem loadConstantRun_of_index {i : Fin 32} (h0 : s.args[0].toNat = i.val) (h1 : s.args[1].toNat ≤ 1) :
    loadConstantRun s = loadRecord 2#8 (constantRecord (s.args[1] == 1#8) i s.constants) s := by
  simp only [loadConstantRun, indexArg_of_eq h0, bitArg_of_le_one h1]

theorem loadConstantRun_of_misnamed (h : 31 < s.args[0].toNat ∨ 1 < s.args[1].toNat) :
    loadConstantRun s = (s, .badArgument) := by
  rcases h with h | h
  · simp only [loadConstantRun, indexArg_eq_none (n := 32).2 h, refuse]
  · cases hi : indexArg 32 s.args[0] <;> simp only [loadConstantRun, hi, bitArg_eq_none.2 h, refuse]

theorem loadChannelRun_of_index {c : Fin 8} (h : s.args[0].toNat = c.val) :
    loadChannelRun s = loadRecord 3#8 (channelRecord c s.channels[c]) s := by
  simp only [loadChannelRun, indexArg_of_eq h]

theorem loadChannelRun_of_misnamed (h : 7 < s.args[0].toNat) : loadChannelRun s = (s, .badArgument) := by
  simp only [loadChannelRun, indexArg_eq_none (n := 8).2 h, refuse]

theorem loadQueueEntryRun_of_held {q : QueueItem} (h : s.args[0].toNat ≤ 15)
    (hq : s.queue.items[s.args[0].toNat]? = some q) :
    loadQueueEntryRun s = loadRecord 4#8 (queueRecord s.args[0].toNat s.queue.items.length q) s := by
  simp only [loadQueueEntryRun, if_neg (not_lt.2 h), hq]

theorem loadQueueEntryRun_of_beyond (h : s.args[0].toNat ≤ 15) (hq : s.queue.items.length ≤ s.args[0].toNat) :
    loadQueueEntryRun s = (s, .notFound) := by
  simp only [loadQueueEntryRun, if_neg (not_lt.2 h), List.getElem?_eq_none hq, refuse]

theorem loadQueueEntryRun_of_misnamed (h : 15 < s.args[0].toNat) : loadQueueEntryRun s = (s, .badArgument) := by
  simp only [loadQueueEntryRun, if_pos h, refuse]

theorem loadJournalRun_of_held {e : JournalEntry} (h : s.args[0].toNat ≤ 31)
    (he : s.journal.entries[s.args[0].toNat]? = some e) :
    loadJournalRun s = loadRecord 5#8 (journalRecord s.args[0].toNat s.journal.entries.length e) s := by
  simp only [loadJournalRun, if_neg (not_lt.2 h), he, State.journalCount]

theorem loadJournalRun_of_beyond (h : s.args[0].toNat ≤ 31) (he : s.journal.entries.length ≤ s.args[0].toNat) :
    loadJournalRun s = (s, .notFound) := by
  simp only [loadJournalRun, if_neg (not_lt.2 h), List.getElem?_eq_none he, refuse]

theorem loadJournalRun_of_misnamed (h : 31 < s.args[0].toNat) : loadJournalRun s = (s, .badArgument) := by
  simp only [loadJournalRun, if_pos h, refuse]

section
variable {i : Fin 4} {p : Fin 8} (hi : s.args[0].toNat = i.val) (hp : s.args[1].toNat = p.val)
include hi hp

theorem loadCheckpointRun_of_part {x : Capture} (hx : s.checkpoints.slots[i].content = some x) (h : p.val < x.parts) :
    loadCheckpointRun s = loadRecord 6#8 (checkpointRecord i p.val s.checkpoints.slots[i] x) s := by
  simp only [loadCheckpointRun, indexArg_of_eq hi, indexArg_of_eq hp, hx, if_neg (not_le.2 h)]

theorem loadCheckpointRun_of_missing {x : Capture} (hx : s.checkpoints.slots[i].content = some x)
    (h : x.parts ≤ p.val) : loadCheckpointRun s = (s, .notFound) := by
  simp only [loadCheckpointRun, indexArg_of_eq hi, indexArg_of_eq hp, hx, if_pos h, refuse]

theorem loadCheckpointRun_of_empty (hx : s.checkpoints.slots[i].content = none) :
    loadCheckpointRun s = (s, .notFound) := by
  simp only [loadCheckpointRun, indexArg_of_eq hi, indexArg_of_eq hp, hx, refuse]

end

theorem loadCheckpointRun_of_misnamed (h : 3 < s.args[0].toNat ∨ 7 < s.args[1].toNat) :
    loadCheckpointRun s = (s, .badArgument) := by
  rcases h with h | h
  · simp only [loadCheckpointRun, indexArg_eq_none (n := 4).2 h, refuse]
  · cases hi : indexArg 4 s.args[0] <;> simp only [loadCheckpointRun, hi, indexArg_eq_none (n := 8).2 h, refuse]

theorem loadDraftRun_of_open {d : Draft} (h : s.draft = some d) :
    loadDraftRun s = loadRecord 7#8 (draftRecord d) s := by simp only [loadDraftRun, h]

theorem loadDraftRun_of_empty (h : s.draft = none) : loadDraftRun s = (s, .notFound) := by
  simp only [loadDraftRun, h, refuse]

/-! ### LOADs taken (R191) -/

variable {code kind : Byte} {bytes : List Byte} {r : ResultCode} {run : State → State × ResultCode} (h : s.TakesLoads)
include h

theorem takesLoads_loaded (hrun : run { s with command := code } = loadRecord kind bytes { s with command := code }) :
    takeCommand code false run s = .next (s.loaded code kind bytes) := by
  rw [takesLoads_run h, hrun]
  rfl

theorem takesLoads_refused (hrun : run { s with command := code } = ({ s with command := code }, r)) :
    takeCommand code false run s = .next (s.answered code r) := by
  rw [takesLoads_run h, hrun]
  rfl

end

/-- R162: the parts that a capture has. -/
theorem Capture.lt_parts_iff {x : Capture} {p : Nat} : p < x.parts ↔ p = 0 ∨ 8 * p < x.entries.length := by
  unfold Capture.parts
  omega

/-- Settles O27, LOAD by LOAD. -/
theorem loadsCopyRecords : Obligations.LoadsCopyRecords := by
  intro s h
  exact ⟨fun t ht => takesLoads_loaded h (loadTotaliserRun_of_index (s := { s with command := 0x21 }) ht),
    fun hbad => takesLoads_refused h (loadTotaliserRun_of_misnamed (s := { s with command := 0x21 }) hbad),
    fun i h0 h1 => takesLoads_loaded h (loadConstantRun_of_index (s := { s with command := 0x22 }) h0 h1),
    fun hbad => takesLoads_refused h (loadConstantRun_of_misnamed (s := { s with command := 0x22 }) hbad),
    fun c hc => takesLoads_loaded h (loadChannelRun_of_index (s := { s with command := 0x23 }) hc),
    fun hbad => takesLoads_refused h (loadChannelRun_of_misnamed (s := { s with command := 0x23 }) hbad),
    fun q hp hq => takesLoads_loaded h (loadQueueEntryRun_of_held (s := { s with command := 0x24 }) hp hq),
    fun hp hq => takesLoads_refused h (loadQueueEntryRun_of_beyond (s := { s with command := 0x24 }) hp hq),
    fun hbad => takesLoads_refused h (loadQueueEntryRun_of_misnamed (s := { s with command := 0x24 }) hbad),
    fun e hp he => takesLoads_loaded h (loadJournalRun_of_held (s := { s with command := 0x25 }) hp he),
    fun hp he => takesLoads_refused h (loadJournalRun_of_beyond (s := { s with command := 0x25 }) hp he),
    fun hbad => takesLoads_refused h (loadJournalRun_of_misnamed (s := { s with command := 0x25 }) hbad),
    fun i p hi hp => ⟨fun x hx => ⟨fun hpart => takesLoads_loaded h
          (loadCheckpointRun_of_part (s := { s with command := 0x26 }) hi hp hx (Capture.lt_parts_iff.2 hpart)),
        fun hpos hend => takesLoads_refused h (loadCheckpointRun_of_missing (s := { s with command := 0x26 }) hi hp hx
          (not_lt.1 fun hlt => by have := Capture.lt_parts_iff.1 hlt; omega))⟩,
      fun hx => takesLoads_refused h (loadCheckpointRun_of_empty (s := { s with command := 0x26 }) hi hp hx)⟩,
    fun hbad => takesLoads_refused h (loadCheckpointRun_of_misnamed (s := { s with command := 0x26 }) hbad),
    fun d hd => takesLoads_loaded h (loadDraftRun_of_open (s := { s with command := 0x27 }) hd),
    fun hd => takesLoads_refused h (loadDraftRun_of_empty (s := { s with command := 0x27 }) hd),
    takesLoads_loaded h rfl⟩

end Sys2Proof.Machine
end

section
/-! PROOFS. The layouts of the readout records (R195 to R198). -/

namespace Sys2Proof.Machine

/-! ### Pieces of a record

A record is a row of fields, each of a known length: the bytes at a field's place are found field by field. -/

/-- The `n` bytes of a record from `p` on. -/
def chunk (b : List Byte) (p n : Nat) : List Byte := (b.drop p).take n

@[simp] theorem chunk_zero (b : List Byte) (p : Nat) : chunk b p 0 = [] := List.take_zero

@[simp] theorem chunk_cons_zero (x : Byte) (b : List Byte) (n : Nat) : chunk (x :: b) 0 (n + 1) = x :: chunk b 0 n := rfl

@[simp] theorem chunk_cons_succ (x : Byte) (b : List Byte) (p n : Nat) : chunk (x :: b) (p + 1) n = chunk b p n := rfl

theorem chunk_append_right {l : List Byte} {p : Nat} (r : List Byte) (n : Nat) (h : l.length ≤ p) :
    chunk (l ++ r) p n = chunk r (p - l.length) n := by
  rw [chunk, List.drop_append, List.drop_of_length_le h, List.nil_append, chunk]

theorem chunk_append_left {l : List Byte} {p n : Nat} (r : List Byte) (h : p + n ≤ l.length) :
    chunk (l ++ r) p n = chunk l p n := by
  rw [chunk, List.drop_append_of_le_length (by omega), List.take_append_of_le_length (by rw [List.length_drop]; omega),
    chunk]

theorem chunk_whole {l : List Byte} {n : Nat} (h : l.length = n) : chunk l 0 n = l := by
  rw [chunk, List.drop_zero, ← h, List.take_length]

theorem chunk_chunk (b : List Byte) {p n k m : Nat} (h : k + m ≤ n) : chunk (chunk b p n) k m = chunk b (p + k) m := by
  rw [chunk, chunk, chunk, List.drop_take, List.take_take, List.drop_drop, Nat.min_eq_left (by omega)]

/-- The bytes of the `i`-th entry of a table. -/
theorem chunk_flatMap {α : Type} {f : α → List Byte} {k : Nat} (hf : ∀ x, (f x).length = k) {l : List α} {i : Nat}
    {x : α} (h : l[i]? = some x) : chunk (l.flatMap f) (k * i) k = f x := by
  induction l generalizing i with
  | nil => cases h
  | cons y l ih =>
    rw [List.flatMap_cons]
    cases i with
    | zero =>
      obtain rfl : y = x := by simpa using h
      rw [Nat.mul_zero, chunk_append_left _ (by rw [hf]; omega), chunk_whole (hf y)]
    | succ i =>
      rw [chunk_append_right _ _ (by rw [hf, Nat.mul_succ]; omega), hf, Nat.mul_succ, Nat.add_sub_cancel]
      exact ih (by simpa using h)

theorem length_flatMap_const {α : Type} {f : α → List Byte} {k : Nat} (hf : ∀ x, (f x).length = k) (l : List α) :
    (l.flatMap f).length = k * l.length := by
  induction l with
  | nil => rfl
  | cons y l ih => rw [List.flatMap_cons, List.length_append, hf, ih, List.length_cons, Nat.mul_succ, Nat.add_comm]

/-! ### Numbers (R195) -/

/-- R195: the number that these bytes hold, least significant byte first. -/
def number (l : List Byte) : Nat := l.foldr (fun x acc => x.toNat + 256 * acc) 0

theorem numberAt_eq (b : List Byte) (p n : Nat) : numberAt b p n = number (chunk b p n) := rfl

@[simp] theorem number_singleton (x : Byte) : number [x] = x.toNat := rfl

@[simp] theorem number_half (h : Half) : number (Half.bytes h) = h.toNat := by
  simp only [Half.bytes, number, List.foldr_cons, List.foldr_nil]
  exact toNat_pair (by decide) h

@[simp] theorem number_word (w : Word) : number (Word.bytes w) = w.toNat := by
  rw [← Word.toNat_quad w]
  simp only [Word.bytes, number, List.foldr_cons, List.foldr_nil]
  omega

theorem number_countBytes {n : Nat} (h : n < 65536) : number (countBytes n) = n := by
  rw [countBytes, number_half, BitVec.toNat_ofNat, Nat.mod_eq_of_lt h]

@[simp] theorem number_replicate (n : Nat) : number (List.replicate n 0#8) = 0 := by
  induction n with
  | zero => rfl
  | succ n ih => rw [List.replicate_succ, number, List.foldr_cons]; simpa [number] using ih

@[simp] theorem toNat_bitAt_zero (b : Bool) : (bitAt b 0).toNat = b.toNat := by cases b <;> rfl

@[simp] theorem number_codeOr {α : Type} (code : α → Byte) (x : Option α) :
    (codeOr code x).toNat = codeNumber code x := by cases x <;> rfl

theorem toNat_byteOf {n : Nat} (h : n < 256) : (byteOf n).toNat = n := by rw [BitVec.toNat_ofNat, Nat.mod_eq_of_lt h]

theorem toNat_byteOf_fin {n : Nat} (hn : n ≤ 256) (i : Fin n) : (byteOf i.val).toNat = i.val :=
  toNat_byteOf (i.isLt.trans_le hn)

theorem codeNumber_byteOf {x : Option Nat} (h : x.getD 0 < 256) : codeNumber byteOf x = x.getD 0 := by
  cases x with
  | none => rfl
  | some n => exact toNat_byteOf h

theorem codeNumber_fin {n : Nat} (hn : n ≤ 256) (x : Option (Fin n)) :
    codeNumber (fun i : Fin n => byteOf i.val) x = (x.map Fin.val).getD 0 := by
  cases x with
  | none => rfl
  | some i => exact toNat_byteOf_fin hn i

theorem codeNumber_bit (x : Option Bool) : codeNumber (fun b => bitAt b 0) x = (x.getD false).toNat := by
  rcases x with - | b
  · rfl
  · cases b <;> rfl

/-- R196, R197: the flags of a byte, the lowest first. -/
theorem toNat_flags : ∀ a b c d e f g h : Bool,
    (bitAt a 0 ||| bitAt b 1 ||| bitAt c 2 ||| bitAt d 3 ||| bitAt e 4 ||| bitAt f 5 ||| bitAt g 6 ||| bitAt h 7).toNat =
      a.toNat + 2 * b.toNat + 4 * c.toNat + 8 * d.toNat + 16 * e.toNat + 32 * f.toNat + 64 * g.toNat +
        128 * h.toNat := by decide

theorem toNat_flags_seven (a b c d e f g : Bool) :
    (bitAt a 0 ||| bitAt b 1 ||| bitAt c 2 ||| bitAt d 3 ||| bitAt e 4 ||| bitAt f 5 ||| bitAt g 6).toNat =
      a.toNat + 2 * b.toNat + 4 * c.toNat + 8 * d.toNat + 16 * e.toNat + 32 * f.toNat + 64 * g.toNat := by
  simpa [bitAt] using toNat_flags a b c d e f g false

theorem toNat_flags_five (a b c d e : Bool) :
    (bitAt a 0 ||| bitAt b 1 ||| bitAt c 2 ||| bitAt d 3 ||| bitAt e 4).toNat =
      a.toNat + 2 * b.toNat + 4 * c.toNat + 8 * d.toNat + 16 * e.toNat := by
  simpa [bitAt] using toNat_flags a b c d e false false false

theorem toNat_flags_four (a b c d : Bool) :
    (bitAt a 0 ||| bitAt b 1 ||| bitAt c 2 ||| bitAt d 3).toNat = a.toNat + 2 * b.toNat + 4 * c.toNat + 8 * d.toNat := by
  simpa [bitAt] using toNat_flags a b c d false false false false

theorem toNat_flags_three (a b c : Bool) :
    (bitAt a 0 ||| bitAt b 1 ||| bitAt c 2).toNat = a.toNat + 2 * b.toNat + 4 * c.toNat := by
  simpa [bitAt] using toNat_flags a b c false false false false false

theorem toNat_flags_two (a b : Bool) : (bitAt a 0 ||| bitAt b 1).toNat = a.toNat + 2 * b.toNat := by
  simpa [bitAt] using toNat_flags a b false false false false false false

/-! ### Values, constants and residues (R195) -/

@[simp] theorem length_packDigits (n x : Nat) : (packDigits n x).length = n := by
  induction n generalizing x with
  | zero => rfl
  | succ n ih => rw [packDigits, List.length_cons, ih]

theorem pairValue_packed (x : Nat) :
    pairValue (byteOf (x / 10 % 10 * 16 + x % 10)) = x % 100 ∧
      (byteOf (x / 10 % 10 * 16 + x % 10)).toNat / 16 ≤ 9 ∧ (byteOf (x / 10 % 10 * 16 + x % 10)).toNat % 16 ≤ 9 := by
  rw [pairValue, toNat_byteOf (by omega)]
  omega

/-- R195: packed digits give the number back, pair by pair. -/
theorem pairsValue_packDigits (n x : Nat) : pairsValue (packDigits n x) = x % 100 ^ n := by
  induction n generalizing x with
  | zero => rw [packDigits, pairsValue, pow_zero, Nat.mod_one]
  | succ n ih =>
    obtain ⟨hpair, -⟩ := pairValue_packed x
    rw [packDigits, pairsValue, hpair, ih, pow_succ, Nat.mul_comm (100 ^ n), Nat.mod_mul]

theorem packDigits_legal (n x : Nat) : ∀ y ∈ packDigits n x, y.toNat / 16 ≤ 9 ∧ y.toNat % 16 ≤ 9 := by
  induction n generalizing x with
  | zero => exact fun y hy => nomatch hy
  | succ n ih =>
    obtain ⟨-, hlegal⟩ := pairValue_packed x
    exact List.forall_mem_cons.2 ⟨hlegal, ih (x / 100)⟩

theorem digitsAt_of_chunk {b : List Byte} {p n x : Nat} (h : chunk b p n = packDigits n x) (hx : x < 100 ^ n) :
    DigitsAt b p n x := by
  unfold DigitsAt
  rw [show (b.drop p).take n = packDigits n x from h, pairsValue_packDigits, Nat.mod_eq_of_lt hx]
  exact ⟨rfl, packDigits_legal n x⟩

@[simp] theorem length_halfBytes (h : Half) : (Half.bytes h).length = 2 := by simp [Half.bytes]
@[simp] theorem length_wordBytes (w : Word) : (Word.bytes w).length = 4 := by simp [Word.bytes]
@[simp] theorem length_countBytes (n : Nat) : (countBytes n).length = 2 := length_halfBytes _
@[simp] theorem length_setBytes (x : BitVec 64) : (setBytes x).length = 8 := by simp [setBytes]
@[simp] theorem length_zeroValue : zeroValue.length = 10 := by simp [zeroValue]
@[simp] theorem length_absentValue : absentValue.length = 10 := by simp [absentValue]
@[simp] theorem length_valueBytes (v : Int) (scale : Nat) : (valueBytes v scale).length = 10 := by simp [valueBytes]
@[simp] theorem length_decBytes (d : Dec) : d.bytes.length = 10 := length_valueBytes _ _
@[simp] theorem length_limitBytes (l : Option Int) (scale : Nat) : (limitBytes l scale).length = 10 := by
  cases l <;> simp [limitBytes]
@[simp] theorem length_constantBytes (e : Option Dec) : (constantBytes e).length = 7 := by
  cases e <;> simp [constantBytes]
@[simp] theorem length_residueBytes (r : Nat) : (residueBytes r).length = 4 := length_packDigits _ _
@[simp] theorem length_limitFieldBytes (f : Option (Option Dec)) : (limitFieldBytes f).length = 10 := by
  rcases f with - | - | d <;> simp [limitFieldBytes]

/-- R195: the sign and the scale share a byte. -/
theorem toNat_sign {v : Int} {scale : Nat} (h : scale < 16) :
    (bitAt (decide (v < 0)) 7 ||| byteOf (scale % 16)).toNat = (if v < 0 then 128 else 0) + scale := by
  have hall : ∀ (b : Bool) (s : Fin 16), (bitAt b 7 ||| byteOf s.val).toNat = (if b = true then 128 else 0) + s.val := by
    decide
  rw [Nat.mod_eq_of_lt h, hall (decide (v < 0)) ⟨scale, h⟩]
  simp

section
variable {b : List Byte} {p : Nat}

/-- A part of a piece whose bytes are known. -/
theorem chunk_of_chunk {n k m : Nat} {x : List Byte} (h : chunk b p n = x) (hk : k + m ≤ n) :
    chunk b (p + k) m = chunk x k m := by rw [← h, chunk_chunk b hk]

theorem numberAt_of_chunk {n k m : Nat} {x : List Byte} (h : chunk b p n = x) (hk : k + m ≤ n) :
    numberAt b (p + k) m = number (chunk x k m) := by rw [numberAt_eq, chunk_of_chunk h hk]

theorem valueAt_of_chunk {v : Int} {scale : Nat} (h : chunk b p 10 = valueBytes v scale) : ValueAt b p v scale := by
  intro hv hscale
  refine ⟨?_, digitsAt_of_chunk ?_ hv⟩
  · have hfirst := numberAt_of_chunk (k := 0) (m := 1) h (by decide)
    rw [SignAt, ← toNat_sign hscale]
    exact hfirst
  · rw [chunk_of_chunk h (by decide)]
    exact chunk_whole (length_packDigits 9 _)

theorem absentAt_of_chunk (h : chunk b p 10 = absentValue) : AbsentAt b p 10 := by
  rw [AbsentAt, numberAt_eq, h]
  rfl

theorem limitAt_of_chunk {l : Option Int} {scale : Nat} (h : chunk b p 10 = limitBytes l scale) :
    LimitAt b p l scale := by
  cases l
  · exact absentAt_of_chunk h
  · exact valueAt_of_chunk h

theorem limitFieldAt_of_chunk {f : Option (Option Dec)} (h : chunk b p 10 = limitFieldBytes f) :
    LimitFieldAt b p f := by
  rcases f with - | - | d
  · rw [LimitFieldAt, numberAt_eq, h]
    rfl
  · exact absentAt_of_chunk h
  · exact valueAt_of_chunk h

theorem constantAt_of_chunk {e : Option Dec} (h : chunk b p 7 = constantBytes e) : ConstantAt b p e := by
  cases e with
  | none =>
    rw [ConstantAt, AbsentAt, numberAt_eq, h]
    rfl
  | some d =>
    intro hv hscale
    refine ⟨?_, digitsAt_of_chunk ?_ hv⟩
    · have hfirst := numberAt_of_chunk (k := 0) (m := 1) h (by decide)
      rw [SignAt, ← toNat_sign hscale]
      exact hfirst
    · rw [chunk_of_chunk h (by decide)]
      exact chunk_whole (length_packDigits 6 _)

theorem residueAt_of_chunk {r : Nat} (h : chunk b p 4 = residueBytes r) : ResidueAt b p r := fun hr =>
  digitsAt_of_chunk h hr

/-! ### Sets (R195) -/

theorem getD_chunk {k n : Nat} (h : k < n) (d : Byte) : b.getD (p + k) d = (chunk b p n).getD k d := by
  simp only [chunk, List.getD_eq_getElem?_getD, List.getElem?_take, h, if_true, List.getElem?_drop]

theorem setBytes_getLsbD (x : BitVec 64) (t : Fin 64) :
    ((setBytes x).getD (t.val / 8) 0#8).getLsbD (t.val % 8) = x.getLsbD t.val := by
  have hbyte (k j : Nat) (hj : j < 8) : ((x >>> (8 * k)).setWidth 8).getLsbD j = x.getLsbD (8 * k + j) := by
    simp [hj]
  have hdigit : ∀ k < 8, (setBytes x).getD k 0#8 = (x >>> (8 * k)).setWidth 8 := by
    intro k hk
    interval_cases k <;> rfl
  rw [hdigit _ (by omega), hbyte _ _ (Nat.mod_lt _ (by decide)), Nat.div_add_mod]

theorem setAt_of_chunk {x : BitVec 64} (h : chunk b p 8 = setBytes x) :
    SetAt b p fun t => x.getLsbD t.val = true := fun t => by
  rw [getD_chunk (n := 8) (by omega), h, setBytes_getLsbD]

theorem setOf_getLsbD (l : List (Fin 64)) (t : Fin 64) : (setOf l).getLsbD t.val = true ↔ t ∈ l := by
  rw [setOf, foldl_or_getLsbD, BitVec.ofNat_eq_ofNat, BitVec.getLsbD_zero, Bool.false_or, List.any_eq_true]
  constructor
  · rintro ⟨u, hu, h⟩
    obtain rfl : u = t := by
      rw [BitVec.getLsbD_twoPow] at h
      exact Fin.ext (by simpa using h)
    exact hu
  · exact fun ht => ⟨t, ht, by rw [BitVec.getLsbD_twoPow]; simp⟩

end

/-! ### Legs, effects, folds and capture entries (R197, R198) -/

@[simp] theorem length_legBytes (l : Leg) : (legBytes l).length = 18 := by
  obtain ⟨t, op, source, multiplier, guard⟩ := l
  cases source <;> cases guard <;> simp [legBytes]

@[simp] theorem length_effectBytes (e : Effect) : (effectBytes e).length = 16 := by simp [effectBytes]
@[simp] theorem length_foldBytes (f : FoldRecord) : (foldBytes f).length = 4 := by simp [foldBytes]
@[simp] theorem length_captureEntryBytes (e : CaptureEntry) : (captureEntryBytes e).length = 16 := by
  simp [captureEntryBytes]

end Sys2Proof.Machine
end

section
/-! PROOFS. Where the fields of each readout record stand (R196 to R198). -/

namespace Sys2Proof.Machine

section
variable {b : List Byte} {p : Nat}

/-! ### Entries of tables -/

/-- R197: a leg of 18 bytes. -/
theorem legAt_of_chunk {l : Leg} (h : chunk b p 18 = legBytes l) : LegAt b p l := by
  obtain ⟨t, op, source, multiplier, guard⟩ := l
  have hfield {k m : Nat} (hk : k + m ≤ 18) := numberAt_of_chunk (k := k) (m := m) h hk
  have htarget := hfield (k := 0) (m := 1) (by decide)
  rw [legBytes] at h hfield htarget
  refine ⟨htarget.trans ?_, (hfield (by decide)).trans ?_, ?source, ?multiplier, ?guard⟩
  · exact toNat_byteOf_fin (by decide) t
  · rfl
  case source =>
    cases source
    case immediate d =>
      refine ⟨hfield (by decide), hfield (by decide), valueAt_of_chunk ?_⟩
      rw [chunk_of_chunk h (by decide)]
      cases guard <;> simp [chunk_whole] <;> rfl
    all_goals
      refine ⟨hfield (by decide), (hfield (by decide)).trans ?_, (hfield (by decide)).trans ?_⟩
    case constant.refine_1 k => exact toNat_byteOf_fin (by decide) k
    case totaliser.refine_1 k => exact toNat_byteOf_fin (by decide) k
    case none.refine_1 => rfl
    all_goals cases guard <;> rfl
  case multiplier =>
    cases multiplier
    · exact hfield (by decide)
    · exact (hfield (by decide)).trans (toNat_byteOf_fin (by decide) _)
  case guard =>
    cases guard with
    | none => exact ⟨hfield (by decide), hfield (by decide)⟩
    | some g =>
      exact ⟨(hfield (by decide)).trans (toNat_byteOf_fin (by decide) _), hfield (by decide),
        (hfield (by decide)).trans (toNat_byteOf_fin (by decide) _)⟩

/-- R197: an effect of 16 bytes. -/
theorem effectAt_of_chunk {e : Effect} (h : chunk b p 16 = effectBytes e) : EffectAt b p e := by
  have hfield {k m : Nat} (hk : k + m ≤ 16) := chunk_of_chunk (k := k) (m := m) h hk
  refine ⟨?_, ?_, valueAt_of_chunk ((hfield (by decide)).trans ?_), residueAt_of_chunk ((hfield (by decide)).trans ?_)⟩
  · exact (numberAt_of_chunk (k := 0) h (by decide)).trans (toNat_byteOf_fin (by decide) e.target)
  · exact numberAt_of_chunk h (by decide)
  all_goals simp [effectBytes, chunk_append_left, chunk_append_right, chunk_whole]

/-- R198: a capture entry of 16 bytes. -/
theorem captureEntryAt_of_chunk {e : CaptureEntry} (h : chunk b p 16 = captureEntryBytes e) : CaptureEntryAt b p e := by
  have hfield {k m : Nat} (hk : k + m ≤ 16) := chunk_of_chunk (k := k) (m := m) h hk
  refine ⟨?_, ?_, valueAt_of_chunk ((hfield (by decide)).trans ?_), residueAt_of_chunk ((hfield (by decide)).trans ?_)⟩
  · exact (numberAt_of_chunk (k := 0) h (by decide)).trans (toNat_byteOf_fin (by decide) e.index)
  · exact numberAt_of_chunk h (by decide)
  all_goals simp [captureEntryBytes, chunk_append_left, chunk_append_right, chunk_whole]

/-- R197: a fold of 4 bytes. -/
theorem foldAt_of_chunk {f : FoldRecord} (h : chunk b p 4 = foldBytes f) :
    numberAt b p 1 = f.channel.val ∧ (f.count < 65536 → numberAt b (p + 1) 2 = f.count) ∧
      numberAt b (p + 3) 1 = f.overrun.toNat := by
  refine ⟨?_, fun hn => ?_, (numberAt_of_chunk h (by decide)).trans ?_⟩
  · exact (numberAt_of_chunk (k := 0) h (by decide)).trans (toNat_byteOf_fin (by decide) f.channel)
  · exact (numberAt_of_chunk h (by decide)).trans (number_countBytes hn)
  · exact toNat_bitAt_zero f.overrun

end

/-! ### The records, field by field -/

theorem totaliserRecord_form (t : Fin 64) (x : Totaliser) :
    let b := totaliserRecord t x
    b.length = 45 ∧ numberAt b 0 1 = t.val ∧ numberAt b 1 1 = x.data.state.code.toNat ∧
    numberAt b 2 1 = x.data.kind.code.toNat ∧ (x.data.scale < 256 → numberAt b 3 1 = x.data.scale) ∧
    numberAt b 4 1 = x.data.rounding.code.toNat ∧ numberAt b 5 1 = x.data.policy.code.toNat ∧
    numberAt b 6 1 = x.atUpper.toNat + 2 * x.atLower.toNat + 4 * x.refused.toNat ∧
    LimitAt b 7 x.data.upper x.data.scale ∧ LimitAt b 17 x.data.lower x.data.scale ∧
    ValueAt b 27 x.data.value x.data.scale ∧ ResidueAt b 37 x.data.residue ∧
    numberAt b 41 4 = x.data.revision.toNat := by
  intro b
  have hb : b = totaliserRecord t x := rfl
  rw [totaliserRecord] at hb
  refine ⟨by simp [hb], toNat_byteOf_fin (by decide) t, rfl, rfl, fun h => toNat_byteOf h, rfl, rfl,
    toNat_flags_three _ _ _, limitAt_of_chunk ?_, limitAt_of_chunk ?_, valueAt_of_chunk ?_, residueAt_of_chunk ?_, ?_⟩
  case refine_5 => simp [numberAt_eq, hb, chunk_append_right, chunk_whole]
  all_goals simp [hb, chunk_append_left, chunk_append_right, chunk_whole]

theorem constantRecord_form (pendingBank : Bool) (i : Fin 32) (c : Constants) :
    let b := constantRecord pendingBank i c
    b.length = 16 ∧ numberAt b 0 1 = pendingBank.toNat ∧ numberAt b 1 1 = i.val ∧
    ConstantAt b 2 (if pendingBank = true then c.pending[i] else c.active[i]) ∧ numberAt b 9 2 = c.epoch.toNat ∧
    numberAt b 11 1 = c.lock.isSome.toNat ∧ numberAt b 12 4 = (c.lock.getD 0).toNat := by
  intro b
  have hb : b = constantRecord pendingBank i c := rfl
  rw [constantRecord] at hb
  refine ⟨by simp [hb], toNat_bitAt_zero _, toNat_byteOf_fin (by decide) i, constantAt_of_chunk ?_, ?_, ?_, ?_⟩
  · simp [hb, chunk_append_left, chunk_whole]
  all_goals simp [numberAt_eq, hb, chunk_append_left, chunk_append_right, chunk_whole]

theorem channelRecord_form (c : Fin 8) (x : Channel) :
    let b := channelRecord c x
    b.length = 23 ∧ numberAt b 0 1 = c.val ∧ numberAt b 1 1 = x.config.enabled.toNat ∧
    numberAt b 2 1 = x.config.edge.code.toNat ∧ (x.config.spacing < 256 → numberAt b 3 1 = x.config.spacing) ∧
    numberAt b 4 1 = x.config.target.val ∧ ConstantAt b 5 (some x.config.quantum) ∧
    numberAt b 12 1 = x.config.direction.code.toNat ∧
    (x.config.threshold < 65536 → numberAt b 13 2 = x.config.threshold) ∧
    numberAt b 15 1 = x.run.state.code.toNat ∧
    numberAt b 16 1 = x.run.gateOpen.toNat + 2 * x.run.request.toNat + 4 * x.run.inFlight.isSome.toNat +
      8 * x.run.overrun.toNat + 16 * x.run.configInFlight.toNat ∧
    (x.run.unfolded < 65536 → numberAt b 17 2 = x.run.unfolded) ∧
    (x.run.stray < 65536 → numberAt b 19 2 = x.run.stray) ∧
    (x.run.inFlight.getD 0 < 65536 → numberAt b 21 2 = x.run.inFlight.getD 0) := by
  intro b
  have hb : b = channelRecord c x := rfl
  rw [channelRecord] at hb
  refine ⟨by simp [hb], toNat_byteOf_fin (by decide) c, toNat_bitAt_zero _, rfl, fun h => toNat_byteOf h,
    toNat_byteOf_fin (by decide) _, constantAt_of_chunk ?_, rfl, fun h => ?_, rfl,
    toNat_flags_five _ _ _ _ _, fun h => ?_, fun h => ?_, fun h => ?_⟩
  case refine_1 => simp [hb, chunk_append_left, chunk_whole]
  all_goals
    simp [numberAt_eq, chunk_append_left, chunk_append_right, chunk_whole, number_countBytes, *]

theorem draftRecord_posting (tag epoch : Half) (mode : GuardMode) (legs : List Leg) :
    let b := draftRecord { tag := tag, body := .posting epoch mode legs }
    b.length = 7 + 18 * legs.length ∧ numberAt b 0 1 = 0 ∧ numberAt b 1 2 = tag.toNat ∧
    numberAt b 3 2 = epoch.toNat ∧ numberAt b 5 1 = mode.code.toNat ∧
    (legs.length < 256 → numberAt b 6 1 = legs.length) ∧
    ∀ i l, legs[i]? = some l → LegAt b (7 + 18 * i) l := by
  intro b
  have hb : b = [0#8] ++ Half.bytes tag ++ Half.bytes epoch ++ [mode.code, byteOf legs.length] ++
      legs.flatMap legBytes := by
    simp only [b, draftRecord, Body.kindCode, List.append_assoc]
    rfl
  refine ⟨?_, rfl, ?_, ?_, rfl, fun h => toNat_byteOf h, fun i l hl => legAt_of_chunk ?_⟩
  · simp [hb, length_flatMap_const length_legBytes]
    omega
  · simp [numberAt_eq, hb, chunk_append_left, chunk_whole]
  · simp [numberAt_eq, hb, chunk_append_left, chunk_append_right, chunk_whole]
  · rw [hb, chunk_append_right _ _ (by simp)]
    simpa using chunk_flatMap length_legBytes hl

theorem draftRecord_configureTotaliser (tag : Half) (t : Fin 64) (f : TotFields) :
    let b := draftRecord { tag := tag, body := .configureTotaliser t f }
    b.length = 40 ∧ numberAt b 0 1 = 1 ∧ numberAt b 1 2 = tag.toNat ∧ numberAt b 3 1 = t.val ∧
    numberAt b 4 1 = f.kind.isSome.toNat + 2 * f.scale.isSome.toNat + 4 * f.rounding.isSome.toNat +
      8 * f.policy.isSome.toNat + 16 * f.active.isSome.toNat + 32 * f.upper.isSome.toNat +
      64 * f.lower.isSome.toNat + 128 * f.initial.isSome.toNat ∧
    numberAt b 5 1 = codeNumber Kind.code f.kind ∧ (f.scale.getD 0 < 256 → numberAt b 6 1 = f.scale.getD 0) ∧
    numberAt b 7 1 = codeNumber Rounding.code f.rounding ∧ numberAt b 8 1 = codeNumber Policy.code f.policy ∧
    numberAt b 9 1 = (f.active.getD false).toNat ∧ LimitFieldAt b 10 f.upper ∧ LimitFieldAt b 20 f.lower ∧
    LimitFieldAt b 30 (f.initial.map some) := by
  intro b
  have hb : b = [1#8] ++ Half.bytes tag ++
      ([byteOf t.val,
        bitAt f.kind.isSome 0 ||| bitAt f.scale.isSome 1 ||| bitAt f.rounding.isSome 2 ||| bitAt f.policy.isSome 3 |||
          bitAt f.active.isSome 4 ||| bitAt f.upper.isSome 5 ||| bitAt f.lower.isSome 6 ||| bitAt f.initial.isSome 7,
        codeOr Kind.code f.kind, codeOr byteOf f.scale, codeOr Rounding.code f.rounding, codeOr Policy.code f.policy,
        codeOr (fun b => bitAt b 0) f.active] ++
      limitFieldBytes f.upper ++ limitFieldBytes f.lower ++ limitFieldBytes (f.initial.map some)) := by
    simp only [b, draftRecord, totFieldsBytes]
    cases f.initial <;> rfl
  refine ⟨by simp [hb], rfl, ?_, toNat_byteOf_fin (by decide) t, toNat_flags _ _ _ _ _ _ _ _, number_codeOr _ _,
    fun h => (number_codeOr _ _).trans (codeNumber_byteOf h), number_codeOr _ _, number_codeOr _ _,
    (number_codeOr _ _).trans (codeNumber_bit _), limitFieldAt_of_chunk ?_, limitFieldAt_of_chunk ?_,
    limitFieldAt_of_chunk ?_⟩
  · simp [numberAt_eq, hb, chunk_append_left, chunk_whole]
  all_goals simp [hb, chunk_append_left, chunk_append_right, chunk_whole]

theorem draftRecord_configureChannel (tag : Half) (c : Fin 8) (f : ChannelFields) :
    let b := draftRecord { tag := tag, body := .configureChannel c f }
    b.length = 19 ∧ numberAt b 0 1 = 2 ∧ numberAt b 1 2 = tag.toNat ∧ numberAt b 3 1 = c.val ∧
    numberAt b 4 1 = f.enabled.isSome.toNat + 2 * f.edge.isSome.toNat + 4 * f.spacing.isSome.toNat +
      8 * f.target.isSome.toNat + 16 * f.quantum.isSome.toNat + 32 * f.direction.isSome.toNat +
      64 * f.threshold.isSome.toNat ∧
    numberAt b 5 1 = (f.enabled.getD false).toNat ∧ numberAt b 6 1 = codeNumber EdgeSelect.code f.edge ∧
    (f.spacing.getD 0 < 256 → numberAt b 7 1 = f.spacing.getD 0) ∧
    numberAt b 8 1 = (f.target.map Fin.val).getD 0 ∧
    (∀ d, f.quantum = some d → ConstantAt b 9 (some d)) ∧ (f.quantum = none → numberAt b 9 7 = 0) ∧
    numberAt b 16 1 = codeNumber Direction.code f.direction ∧
    (f.threshold.getD 0 < 65536 → numberAt b 17 2 = f.threshold.getD 0) := by
  intro b
  have hb : b = [2#8] ++ Half.bytes tag ++ channelFieldsBytes c f := rfl
  rw [channelFieldsBytes] at hb
  refine ⟨?_, rfl, ?_, toNat_byteOf_fin (by decide) c, toNat_flags_seven _ _ _ _ _ _ _,
    (number_codeOr _ _).trans (codeNumber_bit _), number_codeOr _ _,
    fun h => (number_codeOr _ _).trans (codeNumber_byteOf h), (number_codeOr _ _).trans (codeNumber_fin (by decide) _),
    fun d hd => constantAt_of_chunk ?_, fun hd => ?_, ?_, fun h => ?_⟩
  case refine_1 => cases hq : f.quantum <;> simp [hb, hq]
  case refine_2 => simp [numberAt_eq, hb, chunk_append_left, chunk_whole]
  case refine_3 => simp [hb, hd, chunk_append_left, chunk_append_right, chunk_whole]
  case refine_4 => simp [numberAt_eq, hb, hd, chunk_append_right]; rfl
  all_goals
    cases hq : f.quantum <;>
      simp [numberAt_eq, chunk_append_right, chunk_whole, number_countBytes, *]

theorem draftRecord_checkpoint (tag : Half) (x : BitVec 64) :
    let b := draftRecord { tag := tag, body := .checkpoint x }
    b.length = 11 ∧ numberAt b 0 1 = 4 ∧ numberAt b 1 2 = tag.toNat ∧ SetAt b 3 fun t => x.getLsbD t.val = true := by
  intro b
  have hb : b = [4#8] ++ Half.bytes tag ++ setBytes x := rfl
  refine ⟨by simp [hb], rfl, ?_, setAt_of_chunk ?_⟩
  · simp [numberAt_eq, hb, chunk_append_left, chunk_whole]
  · simp [hb, chunk_append_right, chunk_whole]

theorem queueRecord_form (p n : Nat) (q : QueueItem) :
    let b := queueRecord p n q
    b.length = (draftRecord q.draft).length + 7 ∧ (p < 256 → numberAt b 0 1 = p) ∧ (n < 256 → numberAt b 1 1 = n) ∧
    numberAt b 2 4 = q.seq.toNat ∧ numberAt b 6 1 = q.active.toNat ∧ b.drop 7 = draftRecord q.draft := by
  intro b
  have hb : b = queueRecord p n q := rfl
  rw [queueRecord] at hb
  refine ⟨by simp [hb]; omega, fun h => toNat_byteOf h, fun h => toNat_byteOf h, ?_, toNat_bitAt_zero _, rfl⟩
  simp [numberAt_eq, hb, chunk_append_left, chunk_whole]

theorem journalRecord_form (p n : Nat) (e : JournalEntry) :
    let b := journalRecord p n e
    b.length = 35 + 16 * e.effects.length + 4 * e.folds.length ∧ (p < 256 → numberAt b 0 1 = p) ∧
    (n < 256 → numberAt b 1 1 = n) ∧ numberAt b 2 4 = e.number.toNat ∧ numberAt b 6 1 = e.source.code.toNat ∧
    numberAt b 7 1 = e.boot.isSome.toNat + 2 * e.item.isSome.toNat + 4 * e.channel.isSome.toNat +
      8 * e.outcome.isSome.toNat + 16 * e.reason.isSome.toNat + 32 * e.failingLeg.isSome.toNat +
      64 * e.checkpoint.isSome.toNat ∧
    numberAt b 8 4 = (e.boot.getD 0).toNat ∧ numberAt b 12 4 = ((e.item.map Prod.fst).getD 0).toNat ∧
    numberAt b 16 2 = ((e.item.map Prod.snd).getD 0).toNat ∧ numberAt b 18 1 = (e.channel.map Fin.val).getD 0 ∧
    numberAt b 19 1 = codeNumber ItemOutcome.code e.outcome ∧ numberAt b 20 1 = codeNumber Reason.code e.reason ∧
    (e.failingLeg.getD 0 < 256 → numberAt b 21 1 = e.failingLeg.getD 0) ∧
    numberAt b 22 2 = (e.epoch.getD 0).toNat ∧ numberAt b 24 4 = (e.generation.getD 0).toNat ∧
    numberAt b 28 1 = (e.checkpoint.map fun c => c.1.val).getD 0 ∧
    numberAt b 29 4 = ((e.checkpoint.map Prod.snd).getD 0).toNat ∧
    (e.effects.length < 256 → numberAt b 33 1 = e.effects.length) ∧
    (e.folds.length < 256 → numberAt b 34 1 = e.folds.length) ∧
    (∀ i x, e.effects[i]? = some x → EffectAt b (35 + 16 * i) x) ∧
    (∀ i x, e.folds[i]? = some x →
      let at_ := 35 + 16 * e.effects.length + 4 * i
      numberAt b at_ 1 = x.channel.val ∧ (x.count < 65536 → numberAt b (at_ + 1) 2 = x.count) ∧
      numberAt b (at_ + 3) 1 = x.overrun.toNat) := by
  intro b
  have hb : b = journalRecord p n e := rfl
  rw [journalRecord] at hb
  have hslot : codeNumber (fun c : Fin 4 × Word => byteOf c.1.val) e.checkpoint =
      (e.checkpoint.map fun c => c.1.val).getD 0 := by
    cases e.checkpoint with
    | none => rfl
    | some c => exact toNat_byteOf_fin (by decide) c.1
  obtain ⟨head, hlen, hhead⟩ : ∃ head : List Byte, head.length = 35 ∧
      b = head ++ e.effects.flatMap effectBytes ++ e.folds.flatMap foldBytes := ⟨_, by simp, hb⟩
  have heffects := length_flatMap_const length_effectBytes e.effects
  have hfolds := length_flatMap_const length_foldBytes e.folds
  refine ⟨by simp [hhead, hlen, heffects, hfolds, Nat.add_assoc], fun h => toNat_byteOf h, fun h => toNat_byteOf h, ?_,
    ?_, ?flags, ?_, ?_, ?_, ?_, ?_, ?_, fun h => ?failing, ?_, ?_, ?_, ?_, fun h => ?_, fun h => ?_,
    fun i x hx => effectAt_of_chunk ?effect, fun i x hx => foldAt_of_chunk ?fold⟩
  case effect =>
    have hi := (List.getElem?_eq_some_iff.1 hx).1
    rw [hhead, chunk_append_left _ (by rw [List.length_append, hlen, heffects]; omega),
      chunk_append_right _ _ (by rw [hlen]; omega), hlen, Nat.add_sub_cancel_left]
    exact chunk_flatMap length_effectBytes hx
  case fold =>
    have hi := (List.getElem?_eq_some_iff.1 hx).1
    have htables : (head ++ e.effects.flatMap effectBytes).length = 35 + 16 * e.effects.length := by
      rw [List.length_append, hlen, heffects]
    rw [hhead, chunk_append_right _ _ (by rw [htables]; omega), htables, Nat.add_sub_cancel_left]
    exact chunk_flatMap length_foldBytes hx
  case flags =>
    rw [← toNat_flags_seven, ← number_singleton, numberAt_eq]
    simp [hb, chunk_append_right]
  case failing =>
    rw [← codeNumber_byteOf h]
    simp [numberAt_eq, hb, chunk_append_right]
  all_goals
    simp [numberAt_eq, chunk_append_left, chunk_append_right, chunk_whole, codeNumber_fin, Nat.mod_eq_of_lt, *]

theorem checkpointRecord_form (i : Fin 4) (p : Nat) (x : Slot) (c : Capture) :
    let b := checkpointRecord i p x c
    b.length = 24 + 16 * min 8 (c.entries.length - 8 * p) ∧ numberAt b 0 1 = i.val ∧
    numberAt b 1 1 = x.pinned.toNat + 2 * x.inFlight.toNat ∧ numberAt b 2 4 = c.number.toNat ∧
    numberAt b 6 4 = c.completion.toNat ∧ numberAt b 10 4 = c.boot.toNat ∧ numberAt b 14 2 = c.epoch.toNat ∧
    numberAt b 16 4 = c.generation.toNat ∧
    (c.entries.length ≤ 64 → p < 256 → numberAt b 20 1 = c.entries.length ∧ numberAt b 21 1 = p ∧
      numberAt b 22 1 = max 1 ((c.entries.length + 7) / 8)) ∧
    numberAt b 23 1 = min 8 (c.entries.length - 8 * p) ∧
    ∀ k e, k < 8 → c.entries[8 * p + k]? = some e → CaptureEntryAt b (24 + 16 * k) e := by
  intro b
  have hb : b = checkpointRecord i p x c := rfl
  rw [checkpointRecord] at hb
  have hpart : ((c.entries.drop (8 * p)).take 8).length = min 8 (c.entries.length - 8 * p) := by simp
  have hentries := length_flatMap_const length_captureEntryBytes ((c.entries.drop (8 * p)).take 8)
  refine ⟨by simp [hb, hentries]; omega, toNat_byteOf_fin (by decide) i, toNat_flags_two _ _, ?_, ?_, ?_, ?_, ?_,
    fun hl hp => ⟨toNat_byteOf (by omega), toNat_byteOf hp, toNat_byteOf ?parts⟩, ?_,
    fun k e hk he => captureEntryAt_of_chunk ?entry⟩
  case parts => unfold Capture.parts; omega
  case entry =>
    have hke : ((c.entries.drop (8 * p)).take 8)[k]? = some e := by
      rw [List.getElem?_take_of_lt hk, List.getElem?_drop, he]
    rw [hb, chunk_append_right _ _ (by simp)]
    simpa using chunk_flatMap length_captureEntryBytes hke
  case refine_6 => exact (toNat_byteOf (by rw [hpart]; omega)).trans hpart
  all_goals simp [numberAt_eq, hb, chunk_append_left, chunk_append_right, chunk_whole]

theorem reportRecord_form (r : Report) :
    let b := reportRecord r
    b.length = 20 ∧ numberAt b 0 4 = r.boot.toNat ∧ numberAt b 4 1 = r.action.code.toNat ∧
    (∀ n, r.action = .rolledForward n → numberAt b 6 4 = n.toNat ∧
      numberAt b 5 1 = 1 + 2 * r.constantsLost.toNat + 4 * r.channelsLost.toNat + 8 * r.nvFault.toNat) ∧
    ((∀ n, r.action ≠ .rolledForward n) → numberAt b 6 4 = 0 ∧
      numberAt b 5 1 = 2 * r.constantsLost.toNat + 4 * r.channelsLost.toNat + 8 * r.nvFault.toNat) ∧
    SetAt b 10 (· ∈ r.faulted) ∧
    (∀ i : Fin 8, (b.getD 18 0#8).getLsbD i.val = true ↔ ∃ j ∈ r.emptied, j.val = i.val) ∧
    (r.damaged < 256 → numberAt b 19 1 = r.damaged) := by
  intro b
  -- The flag of a roll forward and the number rolled forward to stand in the record together.
  obtain ⟨rolled, number, hb, hrolled, hother⟩ : ∃ (rolled : Bool) (number : List Byte),
      b = Word.bytes r.boot ++
        [r.action.code, bitAt rolled 0 ||| bitAt r.constantsLost 1 ||| bitAt r.channelsLost 2 ||| bitAt r.nvFault 3] ++
        number ++ setBytes (setOf r.faulted) ++
        [r.emptied.foldl (fun acc i => acc ||| bitAt true i.val) 0#8, byteOf r.damaged] ∧
      (∀ n, r.action = .rolledForward n → rolled = true ∧ number = Word.bytes n) ∧
      ((∀ n, r.action ≠ .rolledForward n) → rolled = false ∧ number = List.replicate 4 0#8) := by
    simp only [b, reportRecord]
    cases h : r.action
    case rolledForward n => exact ⟨true, Word.bytes n, rfl, by simp, by simp⟩
    all_goals exact ⟨false, List.replicate 4 0#8, rfl, by simp, by simp⟩
  have hnumber : number.length = 4 := by
    by_cases h : ∃ n, r.action = .rolledForward n
    · obtain ⟨n, hn⟩ := h
      simp [(hrolled n hn).2]
    · simp [(hother fun n hn => h ⟨n, hn⟩).2]
  have hflags : numberAt b 5 1 =
      rolled.toNat + 2 * r.constantsLost.toNat + 4 * r.channelsLost.toNat + 8 * r.nvFault.toNat := by
    rw [← toNat_flags_four, ← number_singleton, numberAt_eq]
    simp [hb, chunk_append_right]
  have hforward : chunk b 6 4 = number := by simp [hb, hnumber, chunk_append_left, chunk_append_right, chunk_whole]
  refine ⟨by simp [hb, hnumber], ?_, ?_, fun n hn => ⟨?_, ?_⟩, fun hn => ⟨?_, ?_⟩, fun t => ?_, fun i => ?_, fun h => ?_⟩
  · simp [numberAt_eq, hb, chunk_append_left, chunk_whole]
  · simp [numberAt_eq, hb, chunk_append_right]
  · rw [numberAt_eq, hforward, (hrolled n hn).2, number_word]
  · rw [hflags, (hrolled n hn).1]
    rfl
  · rw [numberAt_eq, hforward, (hother hn).2, number_replicate]
  · rw [hflags, (hother hn).1]
    simp
  · refine (setAt_of_chunk (p := 10) ?_ t).trans (setOf_getLsbD r.faulted t)
    simp [hb, hnumber, chunk_append_left, chunk_append_right, chunk_whole]
  · rw [show 18 = 18 + 0 from rfl, getD_chunk (p := 18) (n := 1) (by decide)]
    have hemptied : chunk b 18 1 = [r.emptied.foldl (fun acc i => acc ||| bitAt true i.val) 0#8] := by
      simp [hb, hnumber, chunk_append_right]
    rw [hemptied, List.getD_cons_zero, foldl_or_getLsbD, BitVec.getLsbD_zero, Bool.false_or, List.any_eq_true]
    simp only [bitAt_getLsbD _ i.isLt, Bool.true_and, decide_eq_true_eq]
  · simp [numberAt_eq, hb, hnumber, chunk_append_right, Nat.mod_eq_of_lt h]

/-- Settles O28, record by record. -/
theorem recordForms : Obligations.RecordForms := by
  refine ⟨totaliserRecord_form, constantRecord_form, channelRecord_form, draftRecord_posting,
    draftRecord_configureTotaliser, draftRecord_configureChannel, fun tag => ⟨rfl, rfl, ?_⟩, draftRecord_checkpoint,
    queueRecord_form, journalRecord_form, checkpointRecord_form, reportRecord_form, by decide, by decide, by decide,
    by decide, by decide, by decide, by decide, by decide, by decide, by decide, by decide, by decide, by decide,
    by decide, fun n => rfl⟩
  exact number_half tag

end Sys2Proof.Machine
end

section
/-! PROOFS. The lines (R170, R171, R194), and the takes of the queue head and of a FOLD (R89 to R93, R129, R130). -/

namespace Sys2Proof.Machine

/-! ### The lines (R194, R170, R171) -/

section
variable {s : State}

theorem exec_cfgenChange (hp : s.powered = true) (active : Bool) :
    exec (.cfgenChange active) s = .next { s with cfgen := active } := by
  change execCfgenChange active s = _
  rw [execCfgenChange, if_pos hp]

theorem exec_pfailDeassertion (hp : s.powered = true) :
    exec .pfailDeassertion s = .next (resumeStartup { s with pfail := false }) := by
  change execPfailDeassertion s = _
  rw [execPfailDeassertion, if_pos hp]

theorem exec_pfailAssertion_shown (hp : s.powered = true) (hpf : s.pfail = false)
    (h : s.device = .starting ∨ s.device = .powerdown ∨ s.pfTaken = true) :
    exec .pfailAssertion s = .next { s with pfail := true } := by
  have htakes : s.takesPfail = false := by rcases h with h | h | h <;> simp [State.takesPfail, h]
  change execPfailAssertion s = _
  simp only [execPfailAssertion, hp, hpf, htakes, Bool.not_true, Bool.or_self, Bool.false_eq_true, if_false]

theorem exec_pfailAssertion_taken (hp : s.powered = true) (hpf : s.pfail = false)
    (h : s.device = .ready ∨ s.device = .halted) (hfirst : s.pfTaken = false) :
    exec .pfailAssertion s = .next (takePowerFail { s with pfail := true }) := by
  have htakes : s.takesPfail = true := by rcases h with h | h <;> simp [State.takesPfail, h, hfirst]
  change execPfailAssertion s = _
  simp only [execPfailAssertion, hp, hpf, htakes, Bool.not_true, Bool.or_self, Bool.false_eq_true, if_false, if_true]

/-- R171: the emergency step with nothing to take. -/
theorem emergencyStepped_ends
    (h : (∀ c : Fin 8, s.channels[c].run.unfolded = 0) ∨ 32 ≤ s.journal.entries.length) :
    s.emergencyStepped = enterPowerdown s := by
  obtain ⟨⟨c, hc⟩, hroom, -⟩ | e := emergencyStepped_cases s
  · rcases h with h | h
    · rw [h c] at hc; exact absurd hc (lt_irrefl 0)
    · omega
  · exact e

end

/-- Settles O29. -/
theorem linesTaken : Obligations.LinesTaken := by
  refine ⟨fun active s hp => exec_cfgenChange hp active, fun s hp => ⟨fun hw => ?waiting, fun hw => ?other⟩,
    fun s hp hpf => ⟨exec_pfailAssertion_shown hp hpf, fun hd hfirst hpers => ?marked, fun hfirst h => ?ended⟩⟩
  case waiting => rw [exec_pfailDeassertion hp, resumeStartup, if_pos hw]
  case other => rw [exec_pfailDeassertion hp, resumeStartup, if_neg hw]
  case marked =>
    rw [exec_pfailAssertion_taken hp hpf (.inl hd) hfirst]
    rcases takePowerFail_cases { s with pfail := true } with ⟨hh, -⟩ | ⟨-, -, e⟩ | ⟨-, hn, -⟩
    · exact absurd (hd.symm.trans hh) (by decide)
    · rw [e]
    · exact absurd hpers hn
  case ended =>
    have hdevice : s.device = .ready ∨ s.device = .halted := h.elim .inr fun h => .inl h.1
    rw [exec_pfailAssertion_taken hp hpf hdevice hfirst]
    rcases takePowerFail_cases { s with pfail := true } with ⟨-, e⟩ | ⟨hn, hpers, -⟩ | ⟨hn, -, e⟩
    · rw [e]; rfl
    · rcases h with h | ⟨-, h, -⟩
      · exact absurd h hn
      · exact absurd hpers h
    · rcases h with h | ⟨-, -, h⟩
      · exact absurd h hn
      · exact congrArg _ (e.trans (emergencyStepped_ends h))

/-! ### The take of the queue head (R89, R93) -/

theorem exec_take_of_busy {s : State} (h : ¬s.EngineFree) : exec .take s = .next s := by
  change execTake s = _
  unfold execTake
  split
  · exact if_neg fun hfree => h (runs_mayTake.1 hfree)
  · rfl

/-- Settles O31. -/
theorem headTaken : Obligations.HeadTaken := by
  refine ⟨fun s h => exec_take_of_busy h, fun s q rest hfree hitems hqueued hturn => ?_⟩
  have hoffers : s.Offers q := ⟨by rw [hitems]; rfl, hqueued⟩
  rw [exec_take_of_choice hfree (choice_eq_head hoffers hturn), takeChosen, takeHead_eq hitems] <;> rfl

/-! ### The take of a FOLD (R91, R92, R129, R130) -/

section
variable {s : State} {c : Fin 8}

theorem offeredHead_isSome : s.offeredHead.isSome = true ↔ ∃ q, s.Offers q := by
  rw [← not_iff_not, Bool.not_eq_true, Option.isSome_eq_false_iff, Option.isNone_iff_eq_none, offeredHead_eq_none,
    not_exists]

theorem choice_eq_first (hfirst : s.FirstInOrder c) (hturn : (∀ q, ¬s.Offers q) ∨ s.engine.fairness < 4) :
    s.choice = some (.fold c) := by
  obtain ⟨d, hchoice, hd⟩ := choice_eq_fold hfirst.1 hturn
  rw [hchoice, firstInOrder_unique hfirst hd]

/-- R130: the change of a fold is the delta of its pulses. -/
theorem foldChange_eq (g : ChannelConfig) (n : Nat) : foldChange g n = .delta (g.foldDelta n) := by
  unfold foldChange ChannelConfig.foldDelta
  cases g.direction <;> simp [Dec.mul, Dec.neg]

theorem evalFold_eq (r : Record) (g : ChannelConfig) (n : Nat) : evalFold r g n = foldYields r g n := by
  unfold evalFold foldYields
  rw [foldChange_eq]
  by_cases h : r.state = .active <;> simp [h]

theorem foldYields_inactive {r : Record} (h : r.state ≠ .active) (g : ChannelConfig) (n : Nat) :
    foldYields r g n = .error .notActive := if_neg h

theorem foldYields_active {r : Record} (h : r.state = .active) (g : ChannelConfig) (n : Nat) :
    foldYields r g n = applyChange r (.delta (g.foldDelta n)) := if_pos h

/-- R34: the flags that an applied change marks. -/
theorem mem_appliedMarks {a : Applied} {t : Fin 64} {m : Fin 64 × StatusFlag} : m ∈ a.marks t ↔ a.MarksOn t m := by
  obtain ⟨v, w, mark, clamp⟩ := a
  unfold Applied.marks Applied.MarksOn
  cases mark <;> cases clamp <;> simp

theorem mem_refusedMark {reason : Reason} {t : Fin 64} {m : Fin 64 × StatusFlag} :
    m ∈ refusedMark reason (some t) ↔ reason.MarksOn t m := by
  unfold refusedMark Reason.MarksOn
  cases reason <;> simp [Reason.marksRefused]

/-- R34: a change that a check refused marks REFUSED. -/
theorem refusedMark_of_refused {r : Record} {x : Change} {reason : Reason} (h : applyChange r x = .error reason)
    (t : Fin 64) : refusedMark reason (some t) = [(t, .refused)] := by
  rcases applyChange_error h with rfl | rfl | rfl <;> rfl

/-- R130: a fold that is rejected. -/
theorem prepareFold_rejected {reason : Reason}
    (h : foldYields s.totals[s.channels[c].config.target].data s.channels[c].config s.channels[c].run.unfolded =
      .error reason) :
    prepareFold s c =
      { s.prepare (JournalEntry.reject
          { s.blankEntry .fold with channel := some c, folds := [s.channels[c].foldRecord c] } reason) with
        marks := refusedMark reason (some s.channels[c].config.target)
        folds := [{ data := s.channels[c].foldRecord c, placed := false }] } := by
  simp only [prepareFold, evalFold_eq, show (s.channels[c].foldRecord c).count = s.channels[c].run.unfolded from rfl, h]

/-- R130: a fold that is APPLIED. -/
theorem prepareFold_applied {a : Applied}
    (h : foldYields s.totals[s.channels[c].config.target].data s.channels[c].config s.channels[c].run.unfolded =
      .ok a) :
    prepareFold s c =
      { s.prepare
          { s.blankEntry .fold with
            channel := some c
            folds := [s.channels[c].foldRecord c]
            effects := [a.effect s.channels[c].config.target s.totals[s.channels[c].config.target].data] } with
        records := [(s.channels[c].config.target,
          { s.totals[s.channels[c].config.target].data.take a with revision := s.journal.counter })]
        marks := a.marks s.channels[c].config.target
        folds := [{ data := s.channels[c].foldRecord c, placed := true }] } := by
  simp only [prepareFold, evalFold_eq, show (s.channels[c].foldRecord c).count = s.channels[c].run.unfolded from rfl, h]
  rfl

end

/-- Settles O32. -/
theorem foldTaken : Obligations.FoldTaken := by
  intro s c hfree hfirst r g p data
  have hrejected {reason : Reason} (h : foldYields s.totals[g.target].data g r.unfolded = .error reason) :
      p.entry.outcome = some .rejected ∧ p.entry.reason = some reason ∧ p.entry.effects = [] ∧ p.records = [] ∧
        p.marks = refusedMark reason (some g.target) ∧ p.folds = [{ data := data, placed := false }] ∧
        p.entry.folds = [data] := by
    rw [show p = _ from prepareFold_rejected h]
    exact ⟨rfl, rfl, rfl, rfl, rfl, rfl, rfl⟩
  have happlied {a : Applied} (h : foldYields s.totals[g.target].data g r.unfolded = .ok a) :
      p.entry.outcome = some .applied ∧ p.entry.reason = none ∧
        p.entry.effects =
          [{ target := g.target, value := a.value, residue := a.residue,
             scale := s.totals[g.target].data.scale, mark := a.mark }] ∧
        p.records = [(g.target, { s.totals[g.target].data with
          value := a.value, residue := a.residue, revision := s.journal.counter })] ∧
        p.marks = a.marks g.target ∧ p.folds = [{ data := data, placed := true }] ∧ p.entry.folds = [data] := by
    rw [show p = _ from prepareFold_applied h]
    exact ⟨rfl, rfl, rfl, rfl, rfl, rfl, rfl⟩
  refine ⟨fun hturn => ?take, ?folds, fun hstate => ?inactive, fun hstate => ⟨fun reason h => ?refused, fun a h => ?ok⟩⟩
  case take =>
    refine ⟨if s.offeredHead.isSome then s.engine.fairness + 1 else 0, fun hq => if_pos (offeredHead_isSome.2 hq),
      fun hq => if_neg fun hs => ?_, ?_⟩
    · obtain ⟨q, hoffers⟩ := offeredHead_isSome.1 hs
      exact hq q hoffers
    · rw [exec_take_of_choice hfree (choice_eq_first hfirst hturn), takeChosen, takeFold_eq]
  case folds =>
    cases h : foldYields s.totals[g.target].data g r.unfolded with
    | error reason =>
      obtain ⟨-, -, -, -, -, -, hfolds⟩ := hrejected h
      exact hfolds
    | ok a =>
      obtain ⟨-, -, -, -, -, -, hfolds⟩ := happlied h
      exact hfolds
  case inactive =>
    obtain ⟨houtcome, hreason, heffects, hrecords, hmarks, hfolds, -⟩ :=
      hrejected (foldYields_inactive hstate g r.unfolded)
    exact ⟨houtcome, hreason, heffects, hrecords, hmarks, hfolds⟩
  case refused =>
    obtain ⟨houtcome, hreason, heffects, hrecords, hmarks, hfolds, -⟩ :=
      hrejected ((foldYields_active hstate g r.unfolded).trans h)
    exact ⟨houtcome, hreason, heffects, hrecords, hmarks.trans (refusedMark_of_refused h _), hfolds⟩
  case ok =>
    obtain ⟨houtcome, hreason, heffects, hrecords, hmarks, hfolds, -⟩ :=
      happlied ((foldYields_active hstate g r.unfolded).trans h)
    exact ⟨houtcome, hreason, heffects, hrecords, fun m => by rw [hmarks, mem_appliedMarks], hfolds⟩

end Sys2Proof.Machine
end

section
/-! PROOFS. A leg (R97 to R101), and a posting evaluated leg by leg and applied whole or rejected whole (R95, R96, R102,
R103). -/

namespace Sys2Proof.Machine

/-! ### A leg in its order (R98 to R101) -/

section
variable {bank : Bank} {mode : GuardMode} {work : Working} {leg : Leg}

theorem legActive_eq_false : legActive work leg = false ↔
    work[leg.target].state ≠ .active ∨ (∃ t, leg.source = .totaliser t ∧ work[t].state ≠ .active) ∨
      (∃ g, leg.guard = some g ∧ work[g.totaliser].state ≠ .active) := by
  rw [legActive, Bool.and_eq_false_iff, Bool.and_eq_false_iff, or_assoc]
  refine or_congr (by simp) (or_congr ?_ ?_)
  · cases leg.source <;> simp
  · cases leg.guard <;> simp

theorem legConstantsValid_eq_false : legConstantsValid bank leg = false ↔
    (∃ k, leg.source = .constant k ∧ bank[k] = none) ∨ (∃ m, leg.multiplier = some m ∧ bank[m] = none) ∨
      (∃ g, leg.guard = some g ∧ bank[g.threshold] = none) := by
  rw [legConstantsValid, Bool.and_eq_false_iff, Bool.and_eq_false_iff, or_assoc]
  refine or_congr ?_ (or_congr ?_ ?_)
  · cases leg.source <;> simp
  · cases leg.multiplier <;> simp
  · cases leg.guard <;> simp

theorem entryValue_of_eq {k : Fin 32} {x : Dec} (h : bank[k] = some x) : entryValue bank k = x := by
  rw [entryValue, h, Option.getD_some]

/-- R100: with its constants valid, a leg goes on when its relation holds. -/
theorem guardHolds_iff (hvalid : legConstantsValid bank leg = true) : guardHolds bank work leg = true ↔
    ∀ g, leg.guard = some g → ∀ y, bank[g.threshold] = some y →
      g.relation.holds { value := work[g.totaliser].value, scale := work[g.totaliser].scale } y = true := by
  cases hg : leg.guard with
  | none => simp [guardHolds, hg]
  | some g =>
    have hne : bank[g.threshold] ≠ none := fun hn =>
      Bool.false_ne_true ((legConstantsValid_eq_false.2 (.inr (.inr ⟨g, hg, hn⟩))).symm.trans hvalid)
    obtain ⟨y, hy⟩ := Option.ne_none_iff_exists'.1 hne
    simp only [guardHolds, hg, Record.decimal, entryValue_of_eq hy, Option.some.injEq, hy, forall_eq']

theorem evalLeg_of_inactive (h : legActive work leg = false) : evalLeg bank mode work leg = .error .notActive := by
  simp only [evalLeg, h, Bool.not_false, if_true]

theorem evalLeg_of_invalid (ha : legActive work leg = true) (h : legConstantsValid bank leg = false) :
    evalLeg bank mode work leg = .error .badConstant := by
  simp only [evalLeg, ha, h, Bool.not_true, Bool.not_false, Bool.false_eq_true, if_true, if_false]

section
variable (ha : legActive work leg = true) (hv : legConstantsValid bank leg = true)
include ha hv

theorem evalLeg_of_required (hg : guardHolds bank work leg = false) :
    evalLeg bank .require work leg = .error .guardFailed := by
  simp only [evalLeg, ha, hv, hg, Bool.not_true, Bool.not_false, Bool.false_eq_true, if_true, if_false]

theorem evalLeg_of_skipped (hg : guardHolds bank work leg = false) :
    evalLeg bank .skip work leg = .ok { effect := skippedEffect leg.target work[leg.target], marks := [] } := by
  simp only [evalLeg, ha, hv, hg, Bool.not_true, Bool.not_false, Bool.false_eq_true, if_true, if_false]

variable (hg : guardHolds bank work leg = true)
include hg

theorem evalLeg_of_refused {reason : Reason}
    (h : applyChange work[leg.target] (legChange bank work leg) = .error reason) :
    evalLeg bank mode work leg = .error reason := by
  simp only [evalLeg, ha, hv, hg, h, Bool.not_true, Bool.false_eq_true, if_false]

theorem evalLeg_of_applied {a : Applied} (h : applyChange work[leg.target] (legChange bank work leg) = .ok a) :
    evalLeg bank mode work leg =
      .ok { effect := a.effect leg.target work[leg.target], marks := a.marks leg.target } := by
  simp only [evalLeg, ha, hv, hg, h, Bool.not_true, Bool.false_eq_true, if_false]

end

/-- R97: the amount of the source. -/
theorem sourceAmount_eq {x : Dec} (hsome : leg.source ≠ .none) (himm : ∀ d, leg.source = .immediate d → x = d)
    (hconst : ∀ k, leg.source = .constant k → bank[k] = some x)
    (htot : ∀ t, leg.source = .totaliser t → x = { value := work[t].value, scale := work[t].scale }) :
    sourceAmount bank work leg.source = x := by
  cases h : leg.source with
  | immediate d => exact (himm d h).symm
  | constant k => exact entryValue_of_eq (hconst k h)
  | totaliser t => exact (htot t h).symm
  | none => exact absurd h hsome

/-- R97: the amount of the source times the multiplier. -/
theorem legAmount_eq {x y : Dec} (hv : legConstantsValid bank leg = true)
    (hx : sourceAmount bank work leg.source = x) (hnone : leg.multiplier = none → y = x)
    (hsome : ∀ m z, leg.multiplier = some m → bank[m] = some z →
      y = { value := x.value * z.value, scale := x.scale + z.scale }) : legAmount bank work leg = y := by
  cases h : leg.multiplier with
  | none => simp only [legAmount, h, hx, hnone h]
  | some m =>
    have hne : bank[m] ≠ none := fun hn =>
      Bool.false_ne_true ((legConstantsValid_eq_false.2 (.inr (.inl ⟨m, h, hn⟩))).symm.trans hv)
    obtain ⟨z, hz⟩ := Option.ne_none_iff_exists'.1 hne
    simp only [legAmount, h, hx, entryValue_of_eq hz, hsome m z h hz, Dec.mul]

end

/-- Settles O38, test by test. -/
theorem legTestedInOrder : Obligations.LegTestedInOrder := by
  intro bank mode work leg inactive invalid held
  have hactive (h : ¬inactive) : legActive work leg = true := Bool.not_eq_false _ ▸ fun hf => h (legActive_eq_false.1 hf)
  have hvalid (h : ¬invalid) : legConstantsValid bank leg = true :=
    Bool.not_eq_false _ ▸ fun hf => h (legConstantsValid_eq_false.1 hf)
  refine ⟨fun h => evalLeg_of_inactive (legActive_eq_false.2 h),
    fun ha h => evalLeg_of_invalid (hactive ha) (legConstantsValid_eq_false.2 h), fun ha hv hg => ?guard,
    fun ha hv hg hclear x himm hconst htot y hnone hsome => ?change⟩
  case guard =>
    have hfails : guardHolds bank work leg = false := Bool.eq_false_iff.2 fun h => hg ((guardHolds_iff (hvalid hv)).1 h)
    refine ⟨?_, ?_⟩ <;> rintro rfl
    · exact evalLeg_of_required (hactive ha) (hvalid hv) hfails
    · exact evalLeg_of_skipped (hactive ha) (hvalid hv) hfails
  case change =>
    intro change
    have hholds : guardHolds bank work leg = true := (guardHolds_iff (hvalid hv)).2 hg
    have hchange : legChange bank work leg = change := by
      have hamount (hop : leg.op ≠ .clear) := legAmount_eq (hvalid hv)
        (sourceAmount_eq (fun hn => hop (hclear hn)) himm hconst htot) hnone hsome
      cases hop : leg.op
      case clear => simp only [legChange, change, hop]
      all_goals simp only [legChange, change, hop, hamount (by rw [hop]; decide), Dec.neg]
    rw [← hchange]
    exact ⟨fun reason h => evalLeg_of_refused (hactive ha) (hvalid hv) hholds h,
      fun a h => ⟨_, evalLeg_of_applied (hactive ha) (hvalid hv) hholds h, fun m => mem_appliedMarks⟩⟩

end Sys2Proof.Machine
end

section
/-! PROOFS. A posting, applied whole or rejected whole by its first failing leg (R95, R96, R102, R103). -/

namespace Sys2Proof.Machine

/-! ### The last effect on a target (R102, R103) -/

theorem lastEffect_append (effects : List Effect) (e : Effect) (t : Fin 64) :
    lastEffect (effects ++ [e]) t = if e.target = t ∧ e.mark ≠ .skipped then some e else lastEffect effects t := by
  unfold lastEffect
  rw [List.filter_append]
  by_cases h : e.target = t ∧ e.mark ≠ .skipped
  · have hkept : (e.target == t && e.mark != .skipped) = true := by simpa using h
    rw [if_pos h, List.filter_cons, if_pos hkept, List.filter_nil, List.getLast?_concat]
  · have hleft : ¬(e.target == t && e.mark != .skipped) = true := by simpa using h
    rw [if_neg h, List.filter_cons, if_neg hleft, List.filter_nil, List.append_nil]

theorem lastEffect_eq_none {effects : List Effect} {t : Fin 64} :
    lastEffect effects t = none ↔ ¬∃ e ∈ effects, e.target = t ∧ e.mark ≠ .skipped := by
  simp [lastEffect]

/-- R96: the working copies after effects, one after another, hold the last on each target. -/
theorem foldl_takeEffect_getElem (effects : List Effect) (work : Working) (t : Fin 64) :
    (∀ e, lastEffect effects t = some e →
      (effects.foldl takeEffect work)[t] = { work[t] with value := e.value, residue := e.residue }) ∧
    (lastEffect effects t = none → (effects.foldl takeEffect work)[t] = work[t]) := by
  induction effects using List.reverseRecOn with
  | nil => exact ⟨fun _ => nofun, fun _ => rfl⟩
  | append_singleton effects e ih =>
    obtain ⟨hsome, hnone⟩ := ih
    rw [List.foldl_append, List.foldl_cons, List.foldl_nil, takeEffect_getElem, lastEffect_append]
    by_cases h : e.target = t ∧ e.mark ≠ .skipped
    · simp only [if_pos h]
      refine ⟨fun e' he => ?_, fun he => (Option.some_ne_none _ he).elim⟩
      obtain rfl := Option.some.inj he
      cases hl : lastEffect effects t with
      | none => rw [hnone hl]
      | some d => rw [hsome d hl]
    · simp only [if_neg h]
      exact ⟨hsome, hnone⟩

/-- R103, R172: the records given a value hold the last effect on each target. -/
theorem mem_givenRecords_foldl {n : Word} {effects : List Effect} {work : Working} {t : Fin 64} {r : Record} :
    (t, r) ∈ givenRecords n effects (effects.foldl takeEffect work) ↔ ∃ e, lastEffect effects t = some e ∧
      r = { work[t] with value := e.value, residue := e.residue, revision := n } := by
  obtain ⟨hsome, -⟩ := foldl_takeEffect_getElem effects work t
  rw [mem_givenRecords]
  constructor
  · rintro ⟨hgiven, hr⟩
    obtain ⟨e, he⟩ := Option.ne_none_iff_exists'.1 fun hn => lastEffect_eq_none.1 hn hgiven
    exact ⟨e, he, hr.trans (by rw [hsome e he])⟩
  · rintro ⟨e, he, hr⟩
    refine ⟨by_contra fun hn => ?_, hr.trans (by rw [hsome e he])⟩
    rw [lastEffect_eq_none.2 hn] at he
    cases he

theorem givenRecords_nodup (n : Word) (effects : List Effect) (work : Working) :
    ((givenRecords n effects work).map Prod.fst).Nodup := by
  rw [givenRecords, List.map_map]
  exact (List.map_id' _).symm ▸ (List.nodup_finRange 64).filter _

/-! ### The legs in order (R96, R102) -/

section
variable {bank : Bank} {mode : GuardMode}

/-- R96: `w i` are the working copies that leg `i` meets, each leg that passes leaving its effect. -/
def LegSteps (bank : Bank) (mode : GuardMode) (legs : List Leg) (w : Nat → Working) : Prop :=
  ∀ i l x, legs[i]? = some l → evalLeg bank mode (w i) l = .ok x → w (i + 1) = takeEffect (w i) x.effect

theorem LegSteps.tail {l : Leg} {legs : List Leg} {w : Nat → Working} (h : LegSteps bank mode (l :: legs) w) :
    LegSteps bank mode legs fun i => w (i + 1) := fun i l' x hl hx => h (i + 1) l' x (by simpa using hl) hx

/-- R102: when every leg passes, the results are theirs, in leg order. -/
theorem evalLegs_of_pass {legs : List Leg} {w : Nat → Working} (hw : LegSteps bank mode legs w)
    (hpass : ∀ i l, legs[i]? = some l → ∃ x, evalLeg bank mode (w i) l = .ok x) (k : Nat) :
    ∃ xs : List LegResult,
      evalLegs bank mode k (w 0) legs = .ok (xs, (xs.map LegResult.effect).foldl takeEffect (w 0)) ∧
      xs.length = legs.length ∧
      ∀ i l x, legs[i]? = some l → evalLeg bank mode (w i) l = .ok x → xs[i]? = some x := by
  induction legs generalizing w k with
  | nil => exact ⟨[], rfl, rfl, fun i l x hl => by simp at hl⟩
  | cons l legs ih =>
    obtain ⟨x, hx⟩ := hpass 0 l rfl
    have hstep := hw 0 l x rfl hx
    obtain ⟨xs, hrun, hlen, hxs⟩ := ih hw.tail (fun i l' hl => hpass (i + 1) l' (by simpa using hl)) (k + 1)
    refine ⟨x :: xs, ?_, by simp [hlen], fun i l' x' hl hx' => ?_⟩
    · rw [hstep] at hrun
      simp only [evalLegs, hx, hrun, List.map_cons, List.foldl_cons]
    · cases i with
      | zero =>
        obtain rfl : l = l' := by simpa using hl
        rw [hx] at hx'
        exact congrArg some (Except.ok.inj hx')
      | succ i => exact hxs i l' x' (by simpa using hl) hx'

/-- R102: the first leg that fails gives its reason and its index. -/
theorem evalLegs_of_fail {legs : List Leg} {w : Nat → Working} (hw : LegSteps bank mode legs w) {i : Nat} {l : Leg}
    {reason : Reason} (hl : legs[i]? = some l)
    (hbefore : ∀ j < i, ∃ l x, legs[j]? = some l ∧ evalLeg bank mode (w j) l = .ok x)
    (hfail : evalLeg bank mode (w i) l = .error reason) (k : Nat) :
    evalLegs bank mode k (w 0) legs = .error (reason, k + i) := by
  induction legs generalizing w i k with
  | nil => simp at hl
  | cons l' legs ih =>
    cases i with
    | zero =>
      obtain rfl : l' = l := by simpa using hl
      simp only [evalLegs, hfail, Nat.add_zero]
    | succ i =>
      obtain ⟨l'', x, hl', hx⟩ := hbefore 0 (Nat.succ_pos i)
      obtain rfl : l' = l'' := by simpa using hl'
      have hrun := ih hw.tail (by simpa using hl)
        (fun j hj => by simpa using hbefore (j + 1) (Nat.succ_lt_succ hj)) hfail (k + 1)
      rw [hw 0 l' x rfl hx] at hrun
      simp only [evalLegs, hx, hrun]
      rw [Nat.add_assoc, Nat.add_comm 1]

end

/-- R96: the statement's working copies are those that the evaluation takes. -/
theorem State.LegsWork.steps {s : State} {mode : GuardMode} {legs : List Leg} {w : Nat → Working}
    (h : s.LegsWork mode legs w) : w 0 = s.working ∧ LegSteps s.constants.active mode legs w := by
  obtain ⟨hfirst, hnext⟩ := h
  refine ⟨Vector.ext fun i hi => ?_, fun i l x hl hx => Vector.ext fun j hj => ?_⟩
  · exact (hfirst ⟨i, hi⟩).trans (working_getElem s ⟨i, hi⟩).symm
  · exact (hnext i l x hl hx ⟨j, hj⟩).trans (takeEffect_getElem (w i) x.effect ⟨j, hj⟩).symm

/-! ### The epoch (R95) -/

theorem namesConstant_iff {l : Leg} :
    l.namesConstant = true ↔ (∃ k, l.source = .constant k) ∨ l.multiplier ≠ none ∨ l.guard ≠ none := by
  rw [Leg.namesConstant, Bool.or_eq_true, Bool.or_eq_true, or_assoc, ← Option.isSome_iff_ne_none,
    ← Option.isSome_iff_ne_none]
  refine or_congr_left ?_
  cases l.source <;> simp

theorem epochMismatch_first {expected active : Half} {before after : List Leg} {l : Leg} (h : expected ≠ active)
    (hbefore : ∀ x ∈ before, x.namesConstant = false) (hl : l.namesConstant = true) :
    epochMismatch expected active (before ++ l :: after) = some before.length := by
  rw [epochMismatch, if_neg h, List.findIdx?_append, List.findIdx?_eq_none_iff.2 hbefore]
  simp [List.findIdx?_cons, hl]

theorem epochMismatch_none {expected active : Half} {legs : List Leg}
    (h : expected = active ∨ ∀ l ∈ legs, l.namesConstant = false) : epochMismatch expected active legs = none := by
  unfold epochMismatch
  split
  · rfl
  · next hne => exact List.findIdx?_eq_none_iff.2 (h.resolve_left hne)

/-! ### What a posting prepares (R95, R102, R103) -/

section
variable {s : State} {q : QueueItem} {expected : Half} {mode : GuardMode} {legs : List Leg}

theorem prepareItem_posting (h : q.draft.body = .posting expected mode legs) :
    prepareItem s q = preparePosting s q expected mode legs := by simp only [prepareItem, h]

theorem preparePosting_mismatched {i : Nat} (h : epochMismatch expected s.constants.epoch legs = some i) :
    preparePosting s q expected mode legs =
      s.prepare { (s.itemEntry .posting q).reject .epochMismatch with failingLeg := some i } := by
  simp only [preparePosting, h]

variable (he : epochMismatch expected s.constants.epoch legs = none)
include he

theorem preparePosting_rejected {reason : Reason} {i : Nat}
    (h : evalLegs s.constants.active mode 0 s.working legs = .error (reason, i)) :
    preparePosting s q expected mode legs =
      { s.prepare { (s.itemEntry .posting q).reject reason with failingLeg := some i } with
        marks := refusedMark reason (legs[i]?.map Leg.target) } := by
  simp only [preparePosting, he, h]

theorem preparePosting_applied {xs : List LegResult} {work : Working}
    (h : evalLegs s.constants.active mode 0 s.working legs = .ok (xs, work)) :
    preparePosting s q expected mode legs =
      { s.prepare { s.itemEntry .posting q with effects := xs.map LegResult.effect } with
        records := givenRecords s.journal.counter (xs.map LegResult.effect) work
        marks := xs.flatMap LegResult.marks } := by
  simp only [preparePosting, he, h]
  rfl

end

/-- Settles O39: by the epoch, and then by the first leg that fails, where one does. -/
theorem postingAllOrNothing : Obligations.PostingAllOrNothing := by
  intro s q expected mode legs w hbody hwork p names passes
  obtain ⟨hfirst, hsteps⟩ := hwork.steps
  have hp : p = preparePosting s q expected mode legs := prepareItem_posting hbody
  have hnames (l : Leg) : ¬names l → l.namesConstant = false := fun h =>
    Bool.eq_false_iff.2 fun hl => h (namesConstant_iff.1 hl)
  refine ⟨fun hne before l after hlegs hbefore hl => ?epoch, fun hepoch => ?evaluated⟩
  case epoch =>
    have he : epochMismatch expected s.constants.epoch legs = some before.length := by
      rw [hlegs]
      exact epochMismatch_first hne (fun x hx => hnames x (hbefore x hx)) (namesConstant_iff.2 hl)
    rw [hp, preparePosting_mismatched he]
    exact ⟨rfl, rfl, rfl, rfl, rfl, rfl⟩
  case evaluated =>
    have he := epochMismatch_none (hepoch.imp_right fun h l hl => hnames l (h l hl))
    refine ⟨fun hpass => ?applied, fun i l reason hl hbefore hfail => ?rejected⟩
    case rejected =>
      have hrun := evalLegs_of_fail hsteps hl (fun j hj => hbefore j hj) hfail 0
      rw [hfirst, Nat.zero_add] at hrun
      rw [hp, preparePosting_rejected he hrun, hl]
      exact ⟨rfl, rfl, rfl, rfl, rfl, fun m => mem_refusedMark⟩
    case applied =>
      have hall : ∀ i l, legs[i]? = some l → ∃ x, evalLeg s.constants.active mode (w i) l = .ok x := fun i l hl => by
        obtain ⟨l', x, hl', hx⟩ := hpass i (List.getElem?_eq_some_iff.1 hl).1
        obtain rfl : l = l' := Option.some.inj (hl.symm.trans hl')
        exact ⟨x, hx⟩
      obtain ⟨xs, hrun, hlen, hxs⟩ := evalLegs_of_pass hsteps hall 0
      rw [hfirst] at hrun
      rw [hp, preparePosting_applied he hrun]
      refine ⟨rfl, rfl, rfl, by simp [State.prepare, hlen], fun i l x hx => ?_, fun m => ?_,
        givenRecords_nodup _ _ _, fun t r => ?_⟩
      · simp [State.prepare, hxs i l x hx.1 hx.2]
      · refine List.mem_flatMap.trans ⟨?_, ?_⟩
        · rintro ⟨x, hx, hm⟩
          obtain ⟨i, hi, rfl⟩ := List.getElem_of_mem hx
          have hl : legs[i]? = some (legs[i]'(hlen ▸ hi)) := List.getElem?_eq_getElem _
          obtain ⟨x, hx⟩ := hall i _ hl
          have hsame : xs[i]? = some x := hxs i _ x hl hx
          rw [List.getElem?_eq_getElem hi] at hsame
          exact ⟨i, _, x, ⟨hl, hx⟩, Option.some.inj hsame ▸ hm⟩
        · rintro ⟨i, l, x, ⟨hl, hx⟩, hm⟩
          exact ⟨x, List.mem_of_getElem? (hxs i l x hl hx), hm⟩
      · refine mem_givenRecords_foldl.trans ?_
        rw [working_getElem]
        rfl

end Sys2Proof.Machine
end

section
/-! PROOFS. The take of the EMERGENCY_FOLD and its outcome (R139, R171, R172, R34). -/

namespace Sys2Proof.Machine

/-! ### The covered channels in order (R172) -/

theorem applyChange_not_skipped {r : Record} {c : Change} {a : Applied} (h : applyChange r c = .ok a) :
    a.mark ≠ .skipped := by
  rcases applyChange_cases r c with ⟨-, e⟩ | ⟨-, -, e⟩ | ⟨-, -, e⟩ <;> rw [e] at h
  · cases h
  · cases h
  · rcases bounded_cases r (candidate r c) with ⟨-, -, e⟩ | ⟨-, e⟩ | ⟨-, -, e⟩ | ⟨-, -, e⟩ | ⟨-, -, e⟩ <;>
      rw [e] at h <;> cases h <;> exact nofun

theorem foldYields_not_skipped {r : Record} {g : ChannelConfig} {n : Nat} {a : Applied} (h : foldYields r g n = .ok a) :
    a.mark ≠ .skipped := by
  unfold foldYields at h
  split at h
  · exact applyChange_not_skipped h
  · cases h

section
variable {channels : Vector Channel 8} {work : Working} {c : Fin 8}

theorem evalCovered_placed {a : Applied}
    (h : foldYields work[channels[c].config.target] channels[c].config channels[c].run.unfolded = .ok a) :
    evalCovered channels work c =
      { data := channels[c].foldRecord c
        effect := a.effect channels[c].config.target work[channels[c].config.target]
        marks := a.marks channels[c].config.target, reason := none } := by
  simp only [evalCovered, evalFold_eq, show (channels[c].foldRecord c).count = channels[c].run.unfolded from rfl, h]

theorem evalCovered_refused {reason : Reason}
    (h : foldYields work[channels[c].config.target] channels[c].config channels[c].run.unfolded = .error reason) :
    evalCovered channels work c =
      { data := channels[c].foldRecord c
        effect := skippedEffect channels[c].config.target work[channels[c].config.target]
        marks := refusedMark reason (some channels[c].config.target), reason := some reason } := by
  simp only [evalCovered, evalFold_eq, show (channels[c].foldRecord c).count = channels[c].run.unfolded from rfl, h]

end

section
variable {channels : Vector Channel 8}

/-- R172: `w i` are the working copies that the `i`-th covered channel meets. -/
def FoldSteps (channels : Vector Channel 8) (cs : List (Fin 8)) (w : Nat → Working) : Prop :=
  ∀ i c, cs[i]? = some c → w (i + 1) = takeEffect (w i) (evalCovered channels (w i) c).effect

theorem evalAllCovered_of_steps {cs : List (Fin 8)} {w : Nat → Working} (hw : FoldSteps channels cs w) (i : Nat) :
    (evalAllCovered channels (w 0) cs).1[i]? = cs[i]?.map fun c => evalCovered channels (w i) c := by
  induction cs generalizing w i with
  | nil => simp [evalAllCovered]
  | cons c cs ih =>
    have htail : FoldSteps channels cs fun i => w (i + 1) := fun i c' hc => hw (i + 1) c' (by simpa using hc)
    have hrest := ih htail
    simp only [evalAllCovered]
    rw [← hw 0 c rfl]
    cases i with
    | zero => rfl
    | succ i => simpa using hrest i

theorem evalAllCovered_work (cs : List (Fin 8)) (work : Working) :
    (evalAllCovered channels work cs).2 =
      ((evalAllCovered channels work cs).1.map CoveredResult.effect).foldl takeEffect work := by
  induction cs generalizing work with
  | nil => rfl
  | cons c cs ih => simp only [evalAllCovered, List.map_cons, List.foldl_cons, ih]

theorem evalAllCovered_length (cs : List (Fin 8)) (work : Working) :
    (evalAllCovered channels work cs).1.length = cs.length := by
  induction cs generalizing work with
  | nil => rfl
  | cons c cs ih => simp only [evalAllCovered, List.length_cons, ih]

end

/-- R172: the statement's working copies are those that the evaluation takes. -/
theorem State.FoldsWork.steps {s : State} {cs : List (Fin 8)} {w : Nat → Working} (h : s.FoldsWork cs w) :
    w 0 = s.working ∧ FoldSteps s.channels cs w := by
  obtain ⟨hfirst, hnext⟩ := h
  refine ⟨Vector.ext fun i hi => ?_, fun i c hc => Vector.ext fun j hj => ?_⟩
  · exact (hfirst ⟨i, hi⟩).trans (working_getElem s ⟨i, hi⟩).symm
  · obtain ⟨hok, herror⟩ := hnext i c hc ⟨j, hj⟩
    refine Eq.trans ?_ (takeEffect_getElem (w i) _ ⟨j, hj⟩).symm
    cases hy : foldYields (w i)[s.channels[c].config.target] s.channels[c].config s.channels[c].run.unfolded with
    | error reason =>
      rw [evalCovered_refused hy, if_neg fun hs => hs.2 rfl]
      exact herror reason hy
    | ok a =>
      rw [evalCovered_placed hy]
      refine (hok a hy).trans (if_congr ⟨fun ht => ⟨ht.symm, foldYields_not_skipped hy⟩, fun ht => ht.1.symm⟩ rfl rfl)

/-! ### What the EMERGENCY_FOLD prepares (R172) -/

/-- R172: what the covered channels give. -/
def State.coveredResults (s : State) : List CoveredResult := (evalAllCovered s.channels s.working s.covered).1

/-- R172: the fold records in flight. -/
def CoveredResult.flight (x : CoveredResult) : FlightFold := { data := x.data, placed := x.reason.isNone }

section
variable {s : State}

theorem prepareEmergency_applied (h : ∃ x ∈ s.coveredResults, x.reason = none) :
    prepareEmergency s =
      { s.prepare
          { s.blankEntry .emergencyFold with
            folds := s.coveredResults.map CoveredResult.data
            effects := s.coveredResults.map CoveredResult.effect } with
        records := givenRecords s.journal.counter (s.coveredResults.map CoveredResult.effect)
          ((s.coveredResults.map CoveredResult.effect).foldl takeEffect s.working)
        marks := s.coveredResults.flatMap CoveredResult.marks
        folds := s.coveredResults.map CoveredResult.flight } := by
  have hany : (s.coveredResults.any fun x => x.reason.isNone) = true := by
    simpa [List.any_eq_true] using h
  have hwork : (s.coveredResults.map CoveredResult.effect).foldl takeEffect s.working =
      (evalAllCovered s.channels s.working s.covered).2 := (evalAllCovered_work s.covered s.working).symm
  rw [hwork]
  exact if_pos hany

theorem prepareEmergency_rejected (h : ∀ x ∈ s.coveredResults, x.reason ≠ none) :
    prepareEmergency s =
      { s.prepare
          { s.blankEntry .emergencyFold with
            folds := s.coveredResults.map CoveredResult.data
            outcome := some .rejected
            reason := s.coveredResults.head?.bind CoveredResult.reason } with
        marks := s.coveredResults.flatMap CoveredResult.marks
        folds := s.coveredResults.map CoveredResult.flight } := by
  have hany : ¬(s.coveredResults.any fun x => x.reason.isNone) = true := by
    simpa [List.any_eq_true] using h
  exact if_neg hany

/-- R172: whatever the outcome. -/
theorem prepareEmergency_common (s : State) :
    (prepareEmergency s).entry.number = s.journal.counter ∧
    (prepareEmergency s).entry.source = .emergencyFold ∧
    (prepareEmergency s).entry.epoch = some s.constants.epoch ∧
    (prepareEmergency s).entry.generation = some s.generation ∧
    (prepareEmergency s).entry.folds = s.coveredResults.map CoveredResult.data ∧
    (prepareEmergency s).folds = s.coveredResults.map CoveredResult.flight ∧
    (prepareEmergency s).marks = s.coveredResults.flatMap CoveredResult.marks := by
  by_cases h : ∃ x ∈ s.coveredResults, x.reason = none
  · rw [prepareEmergency_applied h]
    exact ⟨rfl, rfl, rfl, rfl, rfl, rfl, rfl⟩
  · rw [prepareEmergency_rejected fun x hx hr => h ⟨x, hx, hr⟩]
    exact ⟨rfl, rfl, rfl, rfl, rfl, rfl, rfl⟩

end

/-- R171: a first PFAIL assertion with the engine IDLE or HELD leads to the emergency step. -/
theorem exec_pfailAssertion_emergency {s : State} (hp : s.powered = true) (hpf : s.pfail = false)
    (hd : s.device = .ready) (hfirst : s.pfTaken = false) (he : s.engine.state ≠ .persisting)
    (hroom : s.journal.entries.length ≤ 31) (hcount : ∃ c : Fin 8, 0 < s.channels[c].run.unfolded) :
    exec .pfailAssertion s = .next
      { s.raised .pfail with
        pfail := true, pfTaken := true, engine := { s.engine with deferredReset := false } }.emergencyTaken := by
  rw [exec_pfailAssertion_taken hp hpf (.inl hd) hfirst]
  rcases takePowerFail_cases { s with pfail := true } with ⟨h, -⟩ | ⟨-, h, -⟩ | ⟨-, -, e⟩
  · exact absurd (hd.symm.trans h) (by decide)
  · exact absurd h he
  · exact congrArg _ (e.trans (if_pos ⟨hcount, hroom⟩))

/-- Settles O43, channel by channel. -/
theorem emergencyFoldTaken : Obligations.EmergencyFoldTaken := by
  refine ⟨fun s hp hpf hd hfirst he hroom hcount => exec_pfailAssertion_emergency hp hpf hd hfirst he hroom hcount, ?_⟩
  intro s w covered p yields hsome hwork
  obtain ⟨hfirst, hsteps⟩ := hwork.steps
  obtain ⟨hnumber, hsource, hepoch, hgeneration, hdata, hfolds, hmarks⟩ := prepareEmergency_common s
  have hresult (i : Nat) : s.coveredResults[i]? = covered[i]?.map fun c => evalCovered s.channels (w i) c := by
    rw [State.coveredResults, ← hfirst]
    exact evalAllCovered_of_steps hsteps i
  have hlength : s.coveredResults.length = covered.length := evalAllCovered_length _ _
  refine ⟨hnumber, hsource, hepoch, hgeneration, hdata.trans (evalAllCovered_data _ _ _), ?_, fun i c hc => ?each,
    fun hplaced => ?applied, fun hplaced => ?rejected, fun m => ?marks⟩
  · rw [hfolds, hdata, List.map_map]
    rfl
  case each =>
    have hi : s.coveredResults[i]? = some (evalCovered s.channels (w i) c) := by rw [hresult, hc]; rfl
    refine ⟨fun a hy => ?_, fun reason hy => ⟨?_, fun happlied => ?_⟩⟩
    · rw [evalCovered_placed hy] at hi
      have hany : ∃ x ∈ s.coveredResults, x.reason = none := ⟨_, List.mem_of_getElem? hi, rfl⟩
      rw [show p = _ from prepareEmergency_applied hany]
      exact ⟨by simp [hi, CoveredResult.flight], by simp [State.prepare, hi]; rfl⟩
    · rw [show p.folds = _ from hfolds]
      rw [evalCovered_refused hy] at hi
      simp [hi, CoveredResult.flight]
    · rw [evalCovered_refused hy] at hi
      by_cases hany : ∃ x ∈ s.coveredResults, x.reason = none
      · rw [show p = _ from prepareEmergency_applied hany]
        simp [State.prepare, hi]
        rfl
      · rw [show p = _ from prepareEmergency_rejected fun x hx hr => hany ⟨x, hx, hr⟩] at happlied
        cases happlied
  case applied =>
    obtain ⟨f, hf, hf'⟩ := hplaced
    rw [show p.folds = _ from hfolds] at hf
    obtain ⟨x, hx, rfl⟩ := List.mem_map.1 hf
    rw [show p = _ from prepareEmergency_applied ⟨x, hx, Option.isNone_iff_eq_none.1 hf'⟩]
    refine ⟨rfl, rfl, by simp [State.prepare, hlength], givenRecords_nodup _ _ _, fun t r => ?_⟩
    refine mem_givenRecords_foldl.trans ?_
    rw [working_getElem]
    rfl
  case rejected =>
    have hnone : ∀ x ∈ s.coveredResults, x.reason ≠ none := fun x hx hr => by
      have hf := hplaced x.flight (by rw [show p.folds = _ from hfolds]; exact List.mem_map_of_mem hx)
      rw [CoveredResult.flight, hr] at hf
      cases hf
    rw [show p = _ from prepareEmergency_rejected hnone]
    refine ⟨rfl, rfl, rfl, fun c reason hc hy => ?_⟩
    have h0 := hresult 0
    rw [← List.head?_eq_getElem?, ← List.head?_eq_getElem?, hc, Option.map_some, evalCovered_refused hy] at h0
    simp [State.prepare, h0]
  case marks =>
    rw [show p.marks = _ from hmarks, List.mem_flatMap]
    have hmarksOf (i : Nat) (c : Fin 8) : m ∈ (evalCovered s.channels (w i) c).marks ↔
        (∃ a, yields i c = .ok a ∧ a.MarksOn s.channels[c].config.target m) ∨
          ∃ reason, yields i c = .error reason ∧ reason.MarksOn s.channels[c].config.target m := by
      cases hy : yields i c with
      | error reason => rw [evalCovered_refused hy]; simpa using mem_refusedMark
      | ok a => rw [evalCovered_placed hy]; simpa using mem_appliedMarks
    constructor
    · rintro ⟨x, hx, hm⟩
      obtain ⟨i, hi⟩ := List.getElem?_of_mem hx
      rw [hresult] at hi
      obtain ⟨c, hc, rfl⟩ := Option.map_eq_some_iff.1 hi
      exact ⟨i, c, hc, (hmarksOf i c).1 hm⟩
    · rintro ⟨i, c, hc, h⟩
      exact ⟨_, List.mem_of_getElem? ((hresult i).trans (by rw [hc]; rfl)), (hmarksOf i c).2 h⟩

end Sys2Proof.Machine
end

section
/-! PROOFS. The rounding modes as bounds (R7, R8), and what CARRY keeps (R9, R10, R28). -/

namespace Sys2Proof.Machine

/-! ### Rounding (R7, R8) -/

theorem Dec.align_nonpos {x : Dec} (h : x.value < 0) (mode : Rounding) (t : Nat) : x.align mode t ≤ 0 := by
  rw [Dec.align, if_pos h]
  exact Int.neg_nonpos_of_nonneg (Int.natCast_nonneg _)

theorem Dec.natAbs_align (x : Dec) (mode : Rounding) (t : Nat) :
    (x.align mode t).natAbs = alignMagnitude mode x.value.natAbs x.scale t := by
  unfold Dec.align
  split
  · rw [Int.natAbs_neg, Int.natAbs_natCast]
  · rw [Int.natAbs_natCast]

/-- R7: the magnitude of a number in units of scale `t`. -/
theorem Dec.abs_number (x : Dec) (t : Nat) : |x.number| * 10 ^ t = (x.value.natAbs : ℚ) * 10 ^ t / 10 ^ x.scale := by
  rw [Dec.number, abs_div, abs_of_pos (show (0 : ℚ) < 10 ^ x.scale by positivity), Nat.cast_natAbs, Int.cast_abs]
  ring

theorem abs_units_of_le {coef s t : Nat} (h : s ≤ t) : (coef : ℚ) * 10 ^ t / 10 ^ s = (coef * 10 ^ (t - s) : Nat) := by
  have hpow : (10 : ℚ) ^ t = 10 ^ (t - s) * 10 ^ s := by rw [← pow_add, Nat.sub_add_cancel h]
  rw [hpow, ← mul_assoc, mul_div_assoc, div_self (by positivity), mul_one]
  push_cast
  rfl

theorem abs_units_of_lt {coef s t : Nat} (h : t < s) : (coef : ℚ) * 10 ^ t / 10 ^ s = coef / 10 ^ (s - t) := by
  have hpow : (10 : ℚ) ^ s = 10 ^ (s - t) * 10 ^ t := by rw [← pow_add, Nat.sub_add_cancel h.le]
  rw [hpow, mul_div_mul_right _ _ (by positivity)]

/-- R7: the excess digits as a fraction of one unit, and where it stands from a half. -/
theorem exists_fraction (coef e : Nat) : ∃ φ : ℚ, (coef : ℚ) / 10 ^ e = kept coef e + φ ∧ 0 ≤ φ ∧ φ < 1 ∧
    (10 ^ e ≤ 2 * excess coef e ↔ 1 / 2 ≤ φ) ∧ (2 * excess coef e = 10 ^ e ↔ φ = 1 / 2) ∧
    (10 ^ e < 2 * excess coef e ↔ 1 / 2 < φ) := by
  have hpos : (0 : ℚ) < 10 ^ e := by positivity
  have hsplit : (coef : ℚ) = kept coef e * 10 ^ e + excess coef e := by
    rw [kept, excess]
    exact_mod_cast (Nat.div_add_mod' coef (10 ^ e)).symm
  have hlt : (excess coef e : ℚ) < 10 ^ e := by exact_mod_cast Nat.mod_lt coef (Nat.pow_pos (by decide))
  refine ⟨excess coef e / 10 ^ e, ?_, by positivity, (div_lt_one hpos).2 hlt, ?_, ?_, ?_⟩
  · rw [div_eq_iff hpos.ne', add_mul, div_mul_cancel₀ _ hpos.ne']
    exact hsplit
  · rw [div_le_div_iff₀ two_pos hpos, one_mul, mul_comm]
    exact_mod_cast Iff.rfl
  · rw [div_eq_div_iff hpos.ne' two_ne_zero, one_mul, mul_comm]
    exact_mod_cast Iff.rfl
  · rw [div_lt_div_iff₀ two_pos hpos, one_mul, mul_comm]
    exact_mod_cast Iff.rfl

/-- Settles O33: widening is exact, and narrowing goes by the fraction that the excess digits stand for. -/
theorem roundedAmounts : Obligations.RoundedAmounts := by
  intro x t m
  refine ⟨fun mode => ⟨fun h => Dec.align_nonneg h mode t, fun h => Dec.align_nonpos h mode t⟩, ?_⟩
  simp only [Dec.natAbs_align, alignMagnitude]
  have hm : m = (x.value.natAbs : ℚ) * 10 ^ t / 10 ^ x.scale := Dec.abs_number x t
  by_cases h : x.scale ≤ t
  · rw [abs_units_of_le h] at hm
    simp only [if_pos h, ← hm]
    refine ⟨⟨le_refl m, by linarith⟩, ⟨by linarith, by linarith⟩, by linarith, by linarith, fun hhalf => ?_⟩
    rcases hhalf with hhalf | hhalf <;> linarith
  · obtain ⟨φ, hφ, h0, h1, hup, heven, habove⟩ := exists_fraction x.value.natAbs (x.scale - t)
    rw [abs_units_of_lt (not_le.1 h), hφ] at hm
    simp only [if_neg h, roundKept, hup, heven, habove, hm]
    generalize kept x.value.natAbs (x.scale - t) = k
    refine ⟨⟨by linarith, by linarith⟩, ?halfUp, ?halfEven⟩
    case halfUp =>
      split
      · push_cast; constructor <;> linarith
      · constructor <;> linarith
    case halfEven =>
      split_ifs with hhalf hk habove
      · exact ⟨by linarith, by linarith, fun _ => hk⟩
      · refine ⟨?_, ?_, fun _ => by omega⟩ <;> push_cast <;> linarith
      · refine ⟨?_, ?_, ?_⟩ <;> push_cast
        · linarith
        · linarith
        · rintro (he | he) <;> linarith
      · have hbelow : φ < 1 / 2 := lt_of_le_of_ne (not_lt.1 habove) hhalf
        refine ⟨by linarith, by linarith, ?_⟩
        rintro (he | he) <;> linarith

/-! ### CARRY (R9, R10) -/

/-- R9: the whole part and the fraction hold the amount down to the residue's last digit. -/
theorem carryWhole_add_fraction (coef s t : Nat) :
    carryWhole coef s t * 100000000 + carryFraction coef s t = coef * 10 ^ (t + 8) / 10 ^ s := by
  have hpos (n : Nat) : 0 < 10 ^ n := Nat.pow_pos (by decide)
  have hunits : 100000000 = 10 ^ 8 := by norm_num
  unfold carryWhole carryFraction
  by_cases h : s ≤ t
  · have hpow : 10 ^ (t + 8) = 10 ^ (t - s) * 10 ^ 8 * 10 ^ s := by
      rw [← pow_add, ← pow_add]
      congr 1
      omega
    rw [if_pos h, if_pos h, hpow, ← mul_assoc, Nat.mul_div_cancel _ (hpos s), ← hunits]
    ring
  · rw [if_neg h, if_neg h]
    have hsplit : kept coef (s - t) * 10 ^ (s - t) + excess coef (s - t) = coef := Nat.div_add_mod' coef _
    by_cases h8 : s - t ≤ 8
    · have hpow : 10 ^ (t + 8) = 10 ^ (8 - (s - t)) * 10 ^ s := by
        rw [← pow_add]
        congr 1
        omega
      have hunit : 100000000 = 10 ^ (s - t) * 10 ^ (8 - (s - t)) := by
        rw [← pow_add, Nat.add_sub_cancel' h8, hunits]
      rw [if_pos h8, hpow, ← mul_assoc, Nat.mul_div_cancel _ (hpos s), hunit, ← mul_assoc, ← add_mul, hsplit]
    · have hpow : 10 ^ s = 10 ^ (s - t - 8) * 10 ^ (t + 8) := by
        rw [← pow_add]
        congr 1
        omega
      have hunit : 10 ^ (s - t) = 100000000 * 10 ^ (s - t - 8) := by
        rw [hunits, ← pow_add]
        congr 1
        omega
      rw [if_neg h8, hpow, Nat.mul_div_mul_right _ _ (hpos (t + 8))]
      conv_rhs => rw [← hsplit, hunit, ← mul_assoc, add_comm, Nat.add_mul_div_right _ _ (hpos _), add_comm]

/-- Settles O34. -/
theorem carryKeepsFractions : Obligations.CarryKeepsFractions := by
  intro r d hcarry hd hres
  have hfraction := carryFraction_lt d.value.natAbs d.scale r.scale
  obtain ⟨hsum, hlt⟩ := carryCombine_spec (show r.residue < subUnits from hres) hfraction
  have hwhole := carryWhole_add_fraction d.value.natAbs d.scale r.scale
  rw [candidate_delta_of_carry hcarry]
  refine ⟨hlt, ?_⟩
  have hamount : d.value * 10 ^ (r.scale + 8) / 10 ^ d.scale =
      ((d.value.natAbs * 10 ^ (r.scale + 8) / 10 ^ d.scale : Nat) : Int) := by
    push_cast
    rw [abs_of_nonneg hd]
  rw [hamount, ← hwhole]
  simp only [subUnits] at hsum
  omega

end Sys2Proof.Machine
end

section
/-! PROOFS. The evaluation of a CONFIGURE_TOTALISER (R38 to R42, R143) and of a CONFIGURE_CHANNEL (R135 to R137). -/

namespace Sys2Proof.Machine

/-! ### The resulting record (R39) -/

theorem mergedLimit_eq_some {carried : Option (Option Dec)} {present : Option Int} {old new : Nat}
    {result : Option Int} :
    mergedLimit carried present old new = some result ↔ LimitResults carried present old new result := by
  have hmap (x : Option Int) : x.map some = some result ↔ result.isSome = true ∧ x = result := by
    cases x <;> cases result <;> simp
  unfold mergedLimit LimitResults
  rcases carried with - | - | d
  · cases present with
    | none => simp [eq_comm]
    | some v => exact hmap _
  · simp [eq_comm]
  · exact hmap _

theorem mergedValue_eq (f : TotFields) (r : Record) (scale : Nat) :
    mergedValue f r scale = (f.initial.getD { value := r.value, scale := r.scale }).alignExact scale := by
  unfold mergedValue
  cases f.initial <;> rfl

theorem resultingResidue_eq (f : TotFields) (r n : Record) :
    (if f.initial.isSome || n.rounding != .carry || n.scale != r.scale then 0 else r.residue) =
      if f.initial = none ∧ n.rounding = .carry ∧ n.scale = r.scale then r.residue else 0 := by
  by_cases h : f.initial = none ∧ n.rounding = .carry ∧ n.scale = r.scale
  · obtain ⟨hi, hc, hs⟩ := h
    simp [hi, hc, hs]
  · rw [if_neg h, if_pos]
    by_contra hn
    simp only [Bool.or_eq_true, Option.isSome_iff_ne_none, bne_iff_ne, not_or, not_not] at hn
    exact h ⟨hn.1.1, hn.1.2, hn.2⟩

/-- R39: the resulting record, its revision left as it was. -/
theorem mergeRecord_iff {f : TotFields} {r n : Record} :
    mergeRecord f r = some n ↔ f.Results r n ∧ n.revision = r.revision := by
  constructor
  · intro h
    obtain ⟨hstate, hkind, hscale, hrounding, hpolicy, hupper, hlower, hvalue, hresidue, hrevision⟩ :=
      mergeRecord_eq_some h
    exact ⟨⟨hstate, hkind, hscale, hrounding, hpolicy, mergedLimit_eq_some.1 hupper, mergedLimit_eq_some.1 hlower,
      (mergedValue_eq f r n.scale).symm.trans hvalue, hresidue.trans (resultingResidue_eq f r n)⟩, hrevision⟩
  · rintro ⟨⟨hstate, hkind, hscale, hrounding, hpolicy, hupper, hlower, hvalue, hresidue⟩, hrevision⟩
    rw [← mergedLimit_eq_some] at hupper hlower
    rw [← mergedValue_eq] at hvalue
    rw [← resultingResidue_eq] at hresidue
    obtain ⟨state, kind, scale, rounding, policy, upper, lower, value, residue, revision⟩ := n
    dsimp only at hstate hkind hscale hrounding hpolicy hupper hlower hvalue hresidue hrevision
    subst hscale hrounding
    simp only [mergeRecord, hupper, hlower, hvalue, hstate, hkind, hpolicy, hresidue, hrevision]

theorem TotFields.Results.revised {f : TotFields} {r n : Record} (h : f.Results r n) :
    f.Results r { n with revision := r.revision } := h

/-! ### The grounds of BAD_CONFIG and the bounds (R40, R41) -/

theorem initialMisfits_eq_false {f : TotFields} {k : Kind} :
    initialMisfits f k = false ↔ ∀ d, f.initial = some d → d.value < 0 → k = .balance := by
  unfold initialMisfits
  cases f.initial with
  | none => simp
  | some d =>
    simp only [Bool.and_eq_false_iff, decide_eq_false_iff_not, bne_eq_false_iff_eq, Option.some.injEq, forall_eq']
    exact imp_iff_not_or.symm

theorem scaleMisfits_eq_false {f : TotFields} {r n : Record} (hn : n.scale = f.scale.getD r.scale) :
    scaleMisfits f r = false ↔ (n.scale ≠ r.scale → r.state = .active → f.initial ≠ none) := by
  rw [scaleMisfits, ← hn, Bool.eq_false_iff]
  simp only [ne_eq, Bool.and_eq_true, bne_iff_ne, beq_iff_eq, Option.isNone_iff_eq_none, not_and, and_imp]

theorem bringsActive_eq_true {f : TotFields} {r : Record} :
    bringsActive f r = true ↔ r.state = .active ∨ f.initial ≠ none ∨ f.active = some true := by
  simp only [bringsActive, Bool.or_eq_true, beq_iff_eq, Option.isSome_iff_ne_none, or_assoc]

theorem legal_eq_true {n : Record} :
    n.legal = true ↔ ¬(n.rounding = .carry ∧ n.kind = .balance) ∧ ¬(n.policy = .wrap ∧ n.kind = .balance) ∧
      ¬(n.policy = .wrap ∧ n.upper ≠ none) ∧ (n.lower ≠ none → n.kind = .balance) ∧
      (∀ u l, n.upper = some u → n.lower = some l → l ≤ u) := by
  simp only [Record.legal, Bool.and_eq_true, and_assoc]
  refine and_congr (by simp [imp_iff_not_or]) (and_congr (by simp [imp_iff_not_or]) (and_congr ?_ (and_congr ?_ ?_)))
  · cases n.upper <;> simp
  · cases n.lower <;> simp
  · cases n.upper <;> cases n.lower <;> simp

/-- R40: no ground for BAD_CONFIG holds of a resulting record. -/
theorem suits_iff {f : TotFields} {r n : Record} (hn : f.Results r n) :
    f.Suits r n ↔ n.legal = true ∧ initialMisfits f n.kind = false ∧ scaleMisfits f r = false ∧
      bringsActive f r = true := by
  obtain ⟨-, -, hscale, -⟩ := hn
  rw [legal_eq_true, initialMisfits_eq_false, scaleMisfits_eq_false hscale, bringsActive_eq_true]
  simp only [TotFields.Suits, and_assoc]

theorem within_iff {n : Record} : n.Within ↔ n.lowerBound ≤ n.value ∧ n.value ≤ n.upperBound := Iff.rfl

section
variable {f : TotFields} {r n : Record}

theorem resultingRecord_of_suits (hn : f.Results r n) (hrevision : n.revision = r.revision) (hsuits : f.Suits r n)
    (hwithin : n.Within) : resultingRecord f r = .ok n := by
  have hmerge := mergeRecord_iff.2 ⟨hn, hrevision⟩
  obtain ⟨hlegal, hinitial, hscale, hbrings⟩ := (suits_iff hn).1 hsuits
  obtain ⟨h | ⟨m, hm, hbad⟩, -⟩ | ⟨m, hm, -, -, -, -, ⟨hout, -⟩ | ⟨-, -, e⟩⟩ := resultingRecord_cases f r
  · rw [hmerge] at h; cases h
  · obtain rfl : n = m := Option.some.inj (hmerge.symm.trans hm)
    rcases hbad with h | h | h | h
    · exact absurd (h.symm.trans hlegal) Bool.false_ne_true
    · exact absurd (hinitial.symm.trans h) Bool.false_ne_true
    · exact absurd (hscale.symm.trans h) Bool.false_ne_true
    · exact absurd (h.symm.trans hbrings) Bool.false_ne_true
  · obtain rfl : n = m := Option.some.inj (hmerge.symm.trans hm)
    exact absurd (within_iff.1 hwithin) hout
  · obtain rfl : n = m := Option.some.inj (hmerge.symm.trans hm)
    exact e

theorem resultingRecord_of_outside (hn : f.Results r n) (hsuits : f.Suits r n) (hout : ¬n.Within) :
    resultingRecord f r = .error .outOfLimits := by
  have hmerge : mergeRecord f r = some { n with revision := r.revision } := mergeRecord_iff.2 ⟨hn.revised, rfl⟩
  obtain ⟨hlegal, hinitial, hscale, hbrings⟩ := (suits_iff hn).1 hsuits
  obtain ⟨h | ⟨m, hm, hbad⟩, -⟩ | ⟨m, hm, -, -, -, -, ⟨-, e⟩ | ⟨hl, hu, -⟩⟩ := resultingRecord_cases f r
  · rw [hmerge] at h; cases h
  · obtain rfl := Option.some.inj (hmerge.symm.trans hm)
    rcases hbad with h | h | h | h
    · exact absurd (h.symm.trans hlegal) Bool.false_ne_true
    · exact absurd (hinitial.symm.trans h) Bool.false_ne_true
    · exact absurd (hscale.symm.trans h) Bool.false_ne_true
    · exact absurd (h.symm.trans hbrings) Bool.false_ne_true
  · exact e
  · obtain rfl := Option.some.inj (hmerge.symm.trans hm)
    exact absurd (within_iff.2 ⟨hl, hu⟩) hout

theorem resultingRecord_of_unsuited (h : ∀ n, f.Results r n → ¬f.Suits r n) :
    resultingRecord f r = .error .badConfig := by
  obtain ⟨-, e⟩ | ⟨m, hm, hlegal, hinitial, hscale, hbrings, -⟩ := resultingRecord_cases f r
  · exact e
  · obtain ⟨hn, -⟩ := mergeRecord_iff.1 hm
    exact absurd ((suits_iff hn).2 ⟨hlegal, hinitial, hscale, hbrings⟩) (h m hn)

end

/-! ### What a CONFIGURE_TOTALISER prepares (R42, R143) -/

section
variable {s : State} {q : QueueItem} {i : Fin 64} {f : TotFields}

theorem prepareItem_configureTotaliser (h : q.draft.body = .configureTotaliser i f) :
    prepareItem s q = prepareConfigureTotaliser s q i f := by simp only [prepareItem, h]

theorem prepareConfigureTotaliser_rejected {reason : Reason}
    (h : evalConfigureTotaliser s.cfgen (s.boundByChannel i) f s.totals[i].data = .error reason) :
    prepareConfigureTotaliser s q i f = s.prepare ((s.itemEntry .configureTotaliser q).reject reason) := by
  simp only [prepareConfigureTotaliser, h]

theorem prepareConfigureTotaliser_applied {n : Record}
    (h : evalConfigureTotaliser s.cfgen (s.boundByChannel i) f s.totals[i].data = .ok n) :
    prepareConfigureTotaliser s q i f =
      { s.prepare
          { s.itemEntry .configureTotaliser q with
            generation := some (s.generation + 1)
            effects := [configureEffect i s.totals[i].data n] } with
        records := [(i, { n with revision := s.journal.counter })]
        clearFlags := if f.active = some false then some i else none
        control := { s.nextControl with generation := s.generation + 1 } } := by
  simp only [prepareConfigureTotaliser, h]
  rfl

theorem boundByChannel_iff : s.boundByChannel i = true ↔
    ∃ c : Fin 8, s.channels[c].config.enabled = true ∧ s.channels[c].config.target = i := by
  simp [State.boundByChannel]

end

/-- Settles O40, by the order of R38 to R41. -/
theorem totaliserConfigured : Obligations.TotaliserConfigured := by
  intro s q i f hbody p old gives rejects
  have hp : p = prepareConfigureTotaliser s q i f := prepareItem_configureTotaliser hbody
  have hrejects {reason : Reason}
      (h : evalConfigureTotaliser s.cfgen (s.boundByChannel i) f old = .error reason) : rejects reason := by
    simp only [rejects]
    rw [hp, prepareConfigureTotaliser_rejected h]
    exact ⟨rfl, rfl, rfl, rfl, rfl, rfl, rfl⟩
  have hgives {n : Record} (h : evalConfigureTotaliser s.cfgen (s.boundByChannel i) f old = .ok n) :
      gives n ∧ p.clearFlags = if f.active = some false then some i else none := by
    simp only [gives]
    rw [hp, prepareConfigureTotaliser_applied h]
    exact ⟨⟨rfl, rfl, ⟨_, rfl, rfl, rfl, rfl, rfl, fun v hv => valueAtScale_exact hv, fun hv => valueAtScale_free hv⟩,
      rfl, rfl, rfl⟩, rfl⟩
  have heval := evalConfigureTotaliser_cases s.cfgen (s.boundByChannel i) f old
  refine ⟨fun hcfgen => hrejects ?cfgen, fun hcfgen hunused => ⟨fun hbound => hrejects ?bound, fun hfree => ?unused⟩,
    fun hcfgen hactive => ?resulting⟩
  case cfgen => simp only [evalConfigureTotaliser, hcfgen, Bool.not_false, if_true]
  case bound =>
    simp only [evalConfigureTotaliser, hcfgen, hunused, boundByChannel_iff.2 hbound, Bool.not_true, Bool.false_eq_true,
      if_true, if_false]
  case unused =>
    have hnone : s.boundByChannel i = false := Bool.eq_false_iff.2 fun h => by
      obtain ⟨c, hon, ht⟩ := boundByChannel_iff.1 h
      exact hfree c hon ht
    obtain ⟨hg, hclear⟩ := hgives (n := Record.unused) (by
      simp only [evalConfigureTotaliser, hcfgen, hunused, hnone, Bool.not_true, Bool.false_eq_true, if_true, if_false])
    exact ⟨hg, hclear.trans (if_pos hunused)⟩
  case resulting =>
    have hresult : evalConfigureTotaliser s.cfgen (s.boundByChannel i) f old = resultingRecord f old := by
      simp only [evalConfigureTotaliser, hcfgen, hactive, Bool.not_true, Bool.false_eq_true, if_false]
    refine ⟨fun n hn hrevision hsuits hwithin => ?_, fun hnone => hrejects ?_, fun n hn hsuits hout => hrejects ?_,
      fun n hn hsuits hwithin hold hfits => ?_⟩
    · obtain ⟨hg, hclear⟩ := hgives (hresult.trans (resultingRecord_of_suits hn hrevision hsuits hwithin))
      exact ⟨hg, hclear.trans (if_neg hactive)⟩
    · exact hresult.trans (resultingRecord_of_unsuited hnone)
    · exact hresult.trans (resultingRecord_of_outside hn hsuits hout)
    · exact (hold.resulting hfits.1 hfits.2
        (resultingRecord_of_suits hn.revised rfl hsuits hwithin)).revised n.revision

/-! ### CONFIGURE_CHANNEL (R135 to R137) -/

section
variable {s : State} {q : QueueItem} {c : Fin 8} {f : ChannelFields}

theorem prepareItem_configureChannel (h : q.draft.body = .configureChannel c f) :
    prepareItem s q = prepareConfigureChannel s q c f := by simp only [prepareItem, h]

theorem prepareConfigureChannel_rejected {reason : Reason}
    (h : evalConfigureChannel s.cfgen s.working f s.channels[c] = .error reason) :
    prepareConfigureChannel s q c f = s.prepare ((s.itemEntry .configureChannel q).reject reason) := by
  simp only [prepareConfigureChannel, h]

theorem prepareConfigureChannel_applied {n : ChannelConfig}
    (h : evalConfigureChannel s.cfgen s.working f s.channels[c] = .ok n) :
    prepareConfigureChannel s q c f =
      { s.prepare { s.itemEntry .configureChannel q with generation := some (s.generation + 1) } with
        channelConfig := some (c, n)
        control := { s.nextControl with generation := s.generation + 1 } } := by
  simp only [prepareConfigureChannel, h]

theorem ChannelRun.free_iff {r : ChannelRun} :
    r.free = true ↔ r.state = .disabled ∨ (r.state = .idle ∧ r.unfolded = 0 ∧ r.inFlight = none) := by
  simp [ChannelRun.free, and_assoc]

end

/-- Settles O41. -/
theorem channelConfigured : Obligations.ChannelConfigured := by
  refine ⟨fun s q c f hbody => ?_, fun r => ?_⟩
  · intro p g r n free rejects
    have hp : p = prepareConfigureChannel s q c f := prepareItem_configureChannel hbody
    have hn : mergeChannel f s.channels[c].config = n := rfl
    have hrejects {reason : Reason} (h : evalConfigureChannel s.cfgen s.working f s.channels[c] = .error reason) :
        rejects reason := by
      simp only [rejects]
      rw [hp, prepareConfigureChannel_rejected h]
      exact ⟨rfl, rfl, rfl, rfl⟩
    refine ⟨fun hcfgen => hrejects ?cfgen, fun hcfgen hbusy => hrejects ?busy,
      fun hcfgen hfree hon hstate => hrejects ?inactive, fun hcfgen hfree htarget => ?applied⟩
    case cfgen => simp only [evalConfigureChannel, hcfgen, Bool.not_false, if_true]
    case busy =>
      have hb : s.channels[c].run.free = false := Bool.eq_false_iff.2 fun h => hbusy (ChannelRun.free_iff.1 h)
      simp only [evalConfigureChannel, hcfgen, hb, Bool.not_true, Bool.not_false, Bool.false_eq_true, if_true, if_false]
    all_goals have hf : s.channels[c].run.free = true := ChannelRun.free_iff.2 hfree
    case inactive =>
      simp only [evalConfigureChannel, hcfgen, hf, hn, hon, working_getElem, bne_iff_ne.2 hstate, Bool.not_true,
        Bool.and_self, Bool.false_eq_true, if_true, if_false]
    case applied =>
      have heval : evalConfigureChannel s.cfgen s.working f s.channels[c] = .ok n := by
        have hpass : ¬(n.enabled && s.totals[n.target].data.state != .active) = true := by
          rcases htarget with h | h <;> rw [h] <;> simp
        simp only [evalConfigureChannel, hcfgen, hf, hn, working_getElem, Bool.not_true, Bool.false_eq_true, if_false,
          if_neg hpass]
      rw [hp, prepareConfigureChannel_applied heval]
      exact ⟨rfl, rfl, rfl, rfl⟩
  · refine ⟨fun h => ?_, fun h => ?_, fun h => ?_, fun h => ?_⟩ <;> simp only [ChannelRun.reconfigured, h] <;> rfl

end Sys2Proof.Machine
end

section
/-! PROOFS. The steps of a commit, its second attempt and its failure, and what a cut leaves (R106, R114, R164, R166 to
R168). -/

namespace Sys2Proof.Machine

/-! ### A write that is cut or fails (R164, R168) -/

/-- R164: a failed table write leaves its area failing its check. -/
theorem NvArray.writeTable_failsAt (nv : NvArray) (w : TableWrite) : (nv.writeTable false w).FailsAt w := by
  cases w <;> simp [NvArray.writeTable, NvArray.FailsAt, writtenArea]

namespace Commit
variable {c : Commit} (nv : NvArray) (written : Bool)

theorem breakCommit_intent (h : c.stage = .intent) : nv.breakCommit written c = { nv with intent := .bad } := by
  unfold NvArray.breakCommit
  rw [h]

theorem breakCommit_verify (h : c.stage = .verify) :
    nv.breakCommit written c = nv.writeIntent written c.intent := by
  unfold NvArray.breakCommit
  rw [h]

theorem breakCommit_tables {w : TableWrite} {rest : List TableWrite} (h : c.stage = .tables (w :: rest)) :
    nv.breakCommit written c = nv.writeTable written w := by
  unfold NvArray.breakCommit
  rw [h]

theorem breakCommit_retire (h : c.stage = .retire) :
    nv.breakCommit written c = nv.writeControl written c.intent.controlCopy c.intent.control := by
  unfold NvArray.breakCommit
  rw [h]

end Commit

/-! ### The commit goes on (R166) -/

section
variable {s : State} {c : Commit}

/-- R166: the commit of a part that runs is under way. -/
theorem State.attempt_of_runs (hp : s.powered = true) (hr : s.resetPin = false) : s.attempt = s.commit := by
  simp [State.attempt, State.runs, hp, hr]

theorem exec_commitReadBack (hp : s.powered = true) (hr : s.resetPin = false) (hc : s.commit = some c) :
    exec .commitReadBack s = .next (commitAdvance c s) := by
  have h : exec .commitReadBack s = execCommitReadBack s := rfl
  rw [h, execCommitReadBack, State.attempt_of_runs hp hr, hc]

/-- R167: a mismatch and a timeout alike fail the attempt. -/
theorem exec_fails (hp : s.powered = true) (hr : s.resetPin = false) (hc : s.commit = some c) {i : Instr}
    (hi : i ∈ [Instr.attemptFailure, Instr.commitTimeout]) : exec i s = .next (failAttempt c s) := by
  simp only [List.mem_cons, List.not_mem_nil, or_false] at hi
  rcases hi with rfl | rfl
  · have h : exec .attemptFailure s = execAttemptFailure s := rfl
    rw [h, execAttemptFailure, State.attempt_of_runs hp hr, hc]
  · have h : exec .commitTimeout s = execCommitTimeout s := rfl
    rw [h, execCommitTimeout, State.attempt_of_runs hp hr, hc]

theorem commitAdvance_intent (s : State) (h : c.stage = .intent) :
    commitAdvance c s = { s with commit := some { c with stage := .verify } } := by
  unfold commitAdvance
  rw [h]

theorem commitAdvance_verify (s : State) (h : c.stage = .verify) (ht : c.intent.tables ≠ []) :
    commitAdvance c s = { s with
      nv := { s.nv with intent := .held c.intent }
      commit := some { c with stage := .tables c.intent.tables } } := by
  cases e : c.intent.tables with
  | nil => exact absurd e ht
  | cons w rest =>
    unfold commitAdvance
    rw [h]
    simp only [e]
    rfl

theorem commitAdvance_tables (s : State) {w : TableWrite} {rest : List TableWrite} (h : c.stage = .tables (w :: rest)) :
    (rest ≠ [] → commitAdvance c s =
      { s with nv := s.nv.writeTable true w, commit := some { c with stage := .tables rest } }) ∧
    (rest = [] → commitAdvance c s =
      { s with nv := s.nv.writeTable true w, commit := some { c with stage := .retire } }) := by
  cases rest with
  | nil => exact ⟨fun hr => absurd rfl hr, fun _ => by unfold commitAdvance; rw [h]⟩
  | cons x rest => exact ⟨fun _ => by unfold commitAdvance; rw [h], nofun⟩

end

/-! ### What a cut leaves -/

/-- R164, R168: the array after a cut at each stage of a commit. -/
theorem breakCommit_leaves (nv : NvArray) (c : Commit) (written : Bool) :
    (c.stage = .intent → nv.breakCommit written c = { nv with intent := .bad }) ∧
    (c.stage = .verify →
      nv.breakCommit written c = { nv with intent := if written = true then .held c.intent else .bad }) ∧
    (∀ w rest, c.stage = .tables (w :: rest) →
      nv.breakCommit written c = nv.writeTable written w ∧
      (nv.breakCommit true c).Holds w ∧ (nv.breakCommit false c).FailsAt w) ∧
    (c.stage = .retire →
      let block := if written = true then Area.good (.number c.intent.control.counter) c.intent.control else .bad
      nv.breakCommit written c =
        (match c.intent.controlCopy with
         | .a => { nv with controlA := block }
         | .b => { nv with controlB := block })) := by
  refine ⟨Commit.breakCommit_intent nv written, fun h => ?verify, fun w rest h => ?tables, fun h => ?retire⟩
  case verify => exact Commit.breakCommit_verify nv written h
  case tables =>
    refine ⟨Commit.breakCommit_tables nv written h, ?_, ?_⟩
    · rw [Commit.breakCommit_tables nv true h]
      exact nv.writeTable_holds w
    · rw [Commit.breakCommit_tables nv false h]
      exact nv.writeTable_failsAt w
  case retire =>
    dsimp only
    rw [Commit.breakCommit_retire nv written h]
    cases c.intent.controlCopy <;> rfl

theorem bool_absurd {b : Bool} (ht : b = true) (hf : b = false) : False := Bool.noConfusion (ht.symm.trans hf)

/-- R106, R114, R167: the first failure of an attempt and the second. -/
theorem failAttempt_leaves (c : Commit) (s : State) :
    (c.second = false → failAttempt c s =
      { s with nv := s.nv.breakCommit false c, commit := some { c with second := true, stage := .intent } }) ∧
    (c.second = true →
      (s.pfTaken = true → failAttempt c s =
        { s.raised .nvFault with
          nv := { s.nv.breakCommit false c with intent := .bad }
          commit := none
          device := .powerdown
          engine := { s.engine with state := .stopped } }) ∧
      (s.pfTaken = false → s.engine.deferredReset = false → failAttempt c s =
        { s.raised .nvFault with
          nv := { s.nv.breakCommit false c with intent := .bad }
          commit := none
          device := .halted
          engine := { s.engine with state := .halted } }) ∧
      (s.pfTaken = false → s.engine.deferredReset = true → failAttempt c s =
        ({ s with nv := { s.nv.breakCommit false c with intent := .bad } } : State).restarted s.port)) := by
  rcases failAttempt_cases c s with ⟨hs, e⟩ | ⟨hs, ⟨hp, e⟩ | ⟨hp, hd, e⟩ | ⟨hp, hd, e⟩⟩
  · exact ⟨fun _ => e, fun h => (bool_absurd h hs).elim⟩
  · exact ⟨fun h => (bool_absurd hs h).elim, fun _ =>
      ⟨fun _ => e, fun h => (bool_absurd hp h).elim, fun h => (bool_absurd hp h).elim⟩⟩
  · exact ⟨fun h => (bool_absurd hs h).elim, fun _ =>
      ⟨fun h => (bool_absurd h hp).elim, fun _ _ => e, fun _ h => (bool_absurd h hd).elim⟩⟩
  · exact ⟨fun h => (bool_absurd hs h).elim, fun _ =>
      ⟨fun h => (bool_absurd h hp).elim, fun _ h => (bool_absurd hd h).elim, fun _ _ => e.trans (beginStartup_eq _)⟩⟩

/-- Settles O44, stage by stage. -/
theorem commitSteps : Obligations.CommitSteps := by
  refine ⟨fun nv written => ?writes, breakCommit_leaves, fun s c hp hr hc => ?steps⟩
  case writes => exact ⟨fun _ _ _ _ => rfl, fun _ => rfl, fun _ _ _ => rfl, fun _ _ _ => rfl, fun _ _ _ => rfl⟩
  case steps =>
    have hback := exec_commitReadBack hp hr hc
    refine ⟨fun h => ?_, fun h ht => ?_, fun w rest h => ⟨s.nv.writeTable_holds w, ?_⟩, fun i hi => ?_⟩
    · rw [hback, commitAdvance_intent s h]
    · rw [hback, commitAdvance_verify s h ht]
    · obtain ⟨hmore, hlast⟩ := commitAdvance_tables s h
      exact ⟨fun hr => hback.trans (congrArg _ (hmore hr)), fun hr => hback.trans (congrArg _ (hlast hr))⟩
    · obtain ⟨hfirst, hsecond⟩ := failAttempt_leaves c s
      have e := exec_fails hp hr hc hi
      refine ⟨fun h => e.trans (congrArg _ (hfirst h)), fun h => ?_⟩
      obtain ⟨hpower, hhalt, hreset⟩ := hsecond h
      exact ⟨fun h => e.trans (congrArg _ (hpower h)), fun h h' => e.trans (congrArg _ (hhalt h h')),
        fun h h' => e.trans (congrArg _ (hreset h h'))⟩

end Sys2Proof.Machine
end

section
/-! PROOFS. The publication of a queued item: the events that each owner raises, and the whole next state (R34, R53, R79,
R83, R107 to R109, R145, R157). -/

namespace Sys2Proof.Machine

/-! ### The events of each owner -/

section
variable (e : Event) (p : Prepared) (s : State)

/-- R34: LIMIT is raised when a marked flag was clear. -/
theorem latched_publishTotals :
    (publishTotals p s).latched e = true ↔ s.latched e = true ∨ (e = .limit ∧ FlagRises s.totals p) := by
  have hnew : anyNewFlag s.totals p.marks = true ↔ FlagRises s.totals p := by simp [anyNewFlag, FlagRises]
  rw [publishTotals, latched_raiseIf, Bool.or_eq_true, Bool.and_eq_true, decide_eq_true_eq, hnew, and_comm]
  exact Iff.rfl

/-- R145: COMPLETION is raised, and JOURNAL_FULL when 31 entries or more are then held. -/
theorem latched_publishJournal :
    (publishJournal p s).latched e = true ↔
      s.latched e = true ∨ e = .completion ∨ (e = .journalFull ∧ 30 ≤ s.journal.entries.length) := by
  have hfull : Config.heldAt ≤ (s.journal.entries ++ [p.entry]).length ↔ 30 ≤ s.journal.entries.length := by
    rw [List.length_append, List.length_singleton, Config.heldAt]
    omega
  rw [publishJournal, latched_raiseIf, latched_raise, Bool.or_eq_true, Bool.or_eq_true, Bool.and_eq_true,
    decide_eq_true_eq, decide_eq_true_eq, decide_eq_true_eq, hfull, or_assoc, and_comm (a := 30 ≤ _)]
  exact Iff.rfl

/-- R83: QUEUE_SPACE is raised when a queued item leaves and space was wanted. -/
theorem latched_publishQueue (item : FlightItem) :
    (publishQueue item s).latched e = true ↔
      s.latched e = true ∨ (e = .queueSpace ∧ (∃ q, item = .queued q) ∧ s.queue.spaceWanted = true) := by
  cases item with
  | queued q =>
    have hsame : (removeItems s.queue.items.tail s).latched e =
        (raiseIf s.queue.spaceWanted .queueSpace s).latched e := by
      rw [removeItems_eq]
      unfold raiseIf
      split <;> rfl
    rw [publishQueue, hsame, latched_raiseIf, Bool.or_eq_true, Bool.and_eq_true, decide_eq_true_eq,
      and_comm (a := s.queue.spaceWanted = true)]
    simp
  | fold k => simp [publishQueue]
  | emergency => simp [publishQueue]

end

/-- R107: the parts of a publication before the channels' part. -/
def publishTables (f : InFlight) (s : State) : State :=
  publishConfig f.prepared (publishConstants f.prepared
    (publishQueue f.item (publishJournal f.prepared (publishTotals f.prepared s))))

theorem publishOwners_parts (f : InFlight) (s : State) :
    publishOwners f s = publishCheckpoint f.prepared
      (publishChannels f.item f.prepared.folds (publishTables f s)) := rfl

section
variable (f : InFlight) (s : State)

theorem publishTables_eq : ∃ ev, publishTables f s = { s with
    totals := totalsPublished s.totals f.prepared
    journal := { s.journal with counter := s.journal.counter + 1, entries := s.journal.entries ++ [f.prepared.entry] }
    queue := queuePublished s.queue f.item
    constants := constantsPublished s.constants f.prepared
    generation := f.prepared.control.generation
    channels := channelsConfigured s.channels f.prepared.channelConfig
    events := ev } := by
  obtain ⟨ev1, e1⟩ := publishTotals_eq f.prepared s
  obtain ⟨ev2, e2⟩ := publishJournal_eq f.prepared (publishTotals f.prepared s)
  obtain ⟨ev3, e3⟩ := publishQueue_eq (publishJournal f.prepared (publishTotals f.prepared s)) f.item
  refine ⟨ev3, ?_⟩
  rw [publishTables, publishConfig_eq, publishConstants_eq, e3, e2, e1]

theorem publishTables_channels :
    (publishTables f s).channels = channelsConfigured s.channels f.prepared.channelConfig := by
  obtain ⟨ev, e⟩ := publishTables_eq f s
  rw [e]

/-- R34, R83, R145: the events raised before the channels' part. -/
theorem latched_publishTables (e : Event) :
    (publishTables f s).latched e = true ↔ s.latched e = true ∨ e = .completion ∨
      (e = .journalFull ∧ 30 ≤ s.journal.entries.length) ∨
      (e = .queueSpace ∧ (∃ q, f.item = .queued q) ∧ s.queue.spaceWanted = true) ∨
      (e = .limit ∧ FlagRises s.totals f.prepared) := by
  obtain ⟨ev1, e1⟩ := publishTotals_eq f.prepared s
  obtain ⟨ev2, e2⟩ := publishJournal_eq f.prepared (publishTotals f.prepared s)
  have hconfig : (publishTables f s).latched e =
      (publishQueue f.item (publishJournal f.prepared (publishTotals f.prepared s))).latched e := by
    rw [publishTables, publishConfig_eq, publishConstants_eq]
    rfl
  have hqueue : (publishJournal f.prepared (publishTotals f.prepared s)).queue = s.queue := by rw [e2, e1]
  have hjournal : (publishTotals f.prepared s).journal = s.journal := by rw [e1]
  rw [hconfig, latched_publishQueue, latched_publishJournal, latched_publishTotals, hqueue, hjournal]
  tauto

end

/-! ### The completion of a commit (R107) -/

section
variable {s : State} {c : Commit} {f : InFlight}

theorem State.AtRetire.exec_commitCompletion (h : s.AtRetire c f) :
    exec .commitCompletion s = .next (completeCommit c f s) := by
  obtain ⟨hp, hr, hc, hstage, hf⟩ := h
  have e : exec .commitCompletion s = execCommitCompletion s := rfl
  rw [e, execCommitCompletion, State.attempt_of_runs hp hr, hc, hf]
  exact if_pos hstage

/-- R107: with nothing to follow it, a publication is the whole completion. -/
theorem completeCommit_plain (hitem : f.item ≠ .emergency) (hp : s.pfTaken = false)
    (hd : s.engine.deferredReset = false) : completeCommit c f s = publishedState f c s := by
  rcases completeCommit_cases c f s with ⟨h, -⟩ | ⟨-, h, -⟩ | ⟨-, -, h, -⟩ | ⟨-, -, -, e⟩
  · exact absurd h hitem
  · exact (bool_absurd h hp).elim
  · exact (bool_absurd h hd).elim
  · exact e

theorem completeCommit_powerFailed (hitem : f.item ≠ .emergency) (hp : s.pfTaken = true) :
    completeCommit c f s = (publishedState f c s).emergencyStepped := by
  rcases completeCommit_cases c f s with ⟨h, -⟩ | ⟨-, -, e⟩ | ⟨-, h, -⟩ | ⟨-, h, -⟩
  · exact absurd h hitem
  · exact e
  · exact (bool_absurd hp h).elim
  · exact (bool_absurd hp h).elim

theorem completeCommit_reset (hitem : f.item ≠ .emergency) (hp : s.pfTaken = false)
    (hd : s.engine.deferredReset = true) : completeCommit c f s = beginStartup (publishedState f c s) := by
  rcases completeCommit_cases c f s with ⟨h, -⟩ | ⟨-, h, -⟩ | ⟨-, -, -, e⟩ | ⟨-, -, h, -⟩
  · exact absurd h hitem
  · exact (bool_absurd h hp).elim
  · exact e
  · exact (bool_absurd hd h).elim

theorem completeCommit_emergency (hitem : f.item = .emergency) :
    completeCommit c f s = enterPowerdown (publishedState f c s) := by
  rcases completeCommit_cases c f s with ⟨-, e⟩ | ⟨h, -⟩ | ⟨h, -⟩ | ⟨h, -⟩
  · exact e
  all_goals exact absurd hitem h

/-- R33, R34, R42: the totaliser table after a publication. -/
theorem publishedState_given (f : InFlight) (c : Commit) (s : State) (hn : (f.prepared.records.map Prod.fst).Nodup) :
    TotalsGiven s.totals (publishedState f c s).totals f.prepared := by
  have e : (publishedState f c s).totals = (publishTotals f.prepared s).totals := by
    obtain ⟨ev, e⟩ := publishTotals_eq f.prepared s
    rw [publishedState_eq, e]
  rw [e]
  exact publishTotals_given f.prepared s hn

/-- R166: what the commit's own end leaves of the state that the publication reads. -/
theorem commitRetired_reads (c : Commit) (s : State) :
    (∀ e, (commitRetired c s).latched e = s.latched e) ∧ (commitRetired c s).journal = s.journal ∧
    (commitRetired c s).totals = s.totals ∧ (commitRetired c s).channels = s.channels ∧
    (commitRetired c s).queue = s.queue := ⟨fun _ => rfl, rfl, rfl, rfl, rfl⟩

/-- R107: the events of a publication are those of its tables' part and its channels' part. -/
theorem publishedState_latched (f : InFlight) (c : Commit) (s : State) (e : Event) :
    (publishedState f c s).latched e =
      (publishChannels f.item f.prepared.folds (publishTables f (commitRetired c s))).latched e := by
  have h : (publishedState f c s).latched e = (publishOwners f (commitRetired c s)).latched e := rfl
  rw [h, publishOwners_parts, publishCheckpoint_eq]
  rfl

/-- R83, R145: the events of the publication of a queued item. -/
theorem publishedState_latched_queued {q : QueueItem} (hq : f.item = .queued q) (c : Commit) (s : State) (e : Event) :
    (publishedState f c s).latched e = true ↔ s.latched e = true ∨ e = .completion ∨
      (e = .journalFull ∧ 30 ≤ s.journal.entries.length) ∨
      (e = .queueSpace ∧ s.queue.spaceWanted = true) ∨ (e = .limit ∧ FlagRises s.totals f.prepared) := by
  have hchannels : publishChannels f.item f.prepared.folds (publishTables f (commitRetired c s)) =
      publishTables f (commitRetired c s) := by rw [hq]; rfl
  have hsome : ∃ q, f.item = .queued q := ⟨q, hq⟩
  rw [publishedState_latched, hchannels, latched_publishTables]
  simp only [hsome, true_and]
  exact Iff.rfl

/-- Settles O45: the publication by its owners, with nothing to follow it. -/
theorem publishedItem : Obligations.PublishedItem := by
  intro s c f q hretire hq hn hp hd
  have hitem : f.item ≠ .emergency := by rw [hq]; nofun
  refine ⟨publishedState f c s, hretire.exec_commitCompletion.trans (congrArg _ (completeCommit_plain hitem hp hd)), ?_,
    publishedState_given f c s hn, publishedState_latched_queued hq c s⟩
  have htotals : (publishedState f c s).totals = totalsPublished s.totals f.prepared := by rw [publishedState_eq]
  have hevents : (publishedState f c s).events = (publishOwners f (commitRetired c s)).events := rfl
  rw [htotals, hevents]
  refine (publishedState_eq f c s).trans ?_
  rw [hq]
  rfl

end

end Sys2Proof.Machine
end

section
/-! PROOFS. The publication of a FOLD and of the EMERGENCY_FOLD, and what follows a publication (R107, R114, R131, R132,
R138, R139, R171, R173). -/

namespace Sys2Proof.Machine

/-! ### The channel of a fold (R131, R132, R139) -/

/-- R132, R139: the pulses given back, in the words of the statements. -/
theorem ChannelRun.giveBack_eq_returned (r : ChannelRun) (d : FoldRecord) :
    { r.giveBack d.count d.overrun with inFlight := none } = r.returned d := by
  unfold ChannelRun.giveBack ChannelRun.returned Config.countCeiling
  by_cases h : 65535 < r.unfolded + d.count
  · simp [h, Nat.min_eq_left h.le]
  · simp [h, Nat.min_eq_right (Nat.not_lt.1 h)]

theorem Channel.endRejected_eq (ch : Channel) (d : FoldRecord) :
    ch.endRejected d =
      { config := ch.config, run := { ch.run.returned d with request := false, state := .faulted } } := by
  rw [← ChannelRun.giveBack_eq_returned]
  rfl

theorem Channel.endEmergency_eq (ch : Channel) (x : FlightFold) :
    ch.endEmergency x =
      { config := ch.config
        run := if x.placed = true then { ch.run with inFlight := none } else ch.run.returned x.data } := by
  unfold Channel.endEmergency
  split
  · rfl
  · rw [← ChannelRun.giveBack_eq_returned]

/-- R126, R131: a draining channel with nothing left closes. -/
theorem Channel.endApplied_closes {ch : Channel} (pf : Bool) (h : ch.run.state = .draining ∧ ch.run.unfolded = 0) :
    ch.endApplied pf =
      { config := ch.config, run := { ch.run with inFlight := none, state := .idle, gateOpen := false } } := by
  unfold Channel.endApplied
  exact if_pos h

/-- R122, R131: any other channel may raise its next request. -/
theorem Channel.endApplied_open {ch : Channel} (pf : Bool) (h : ¬(ch.run.state = .draining ∧ ch.run.unfolded = 0)) :
    ch.endApplied pf =
      { config := ch.config
        run := { ch.run with
          inFlight := none
          request := ch.run.request || (!pf &&
            ((ch.run.state == .counting && decide (ch.config.threshold ≤ ch.run.unfolded)) ||
              (ch.run.state == .draining && decide (0 < ch.run.unfolded)))) } } := by
  unfold Channel.endApplied
  refine (if_neg h).trans ?_
  rw [raiseRequest_eq]
  rfl

theorem Channel.closesApplied_iff {ch : Channel} :
    ch.closesApplied = true ↔ ch.run.state = .draining ∧ ch.run.unfolded = 0 := by
  simp [Channel.closesApplied]

theorem ChannelRun.losesBack_iff {r : ChannelRun} {n : Nat} : r.losesBack n = true ↔ 65535 < r.unfolded + n := by
  rw [ChannelRun.losesBack, decide_eq_true_eq, Config.countCeiling]

/-! ### The events of the channels' part -/

/-- R126, R132: CHANNEL_CLOSED where the fold closes its channel, CHANNEL_FAULT where it is rejected, and OVERRUN
where its return loses pulses. -/
theorem latched_publishFold (e : Event) (x : FlightFold) (s : State) :
    (publishFold x s).latched e = true ↔ s.latched e = true ∨
      (e = .channelClosed ∧ x.placed = true ∧ s.channels[x.data.channel].run.state = .draining ∧
        s.channels[x.data.channel].run.unfolded = 0) ∨
      (e = .channelFault ∧ x.placed = false) ∨
      (e = .overrun ∧ x.placed = false ∧ 65535 < s.channels[x.data.channel].run.unfolded + x.data.count) := by
  unfold publishFold
  cases hx : x.placed
  · simp only [Bool.false_eq_true, if_false, latched_raise, latched_raiseIf, Bool.or_eq_true, Bool.and_eq_true,
      decide_eq_true_eq, ChannelRun.losesBack_iff]
    have hset (ch : Channel) : (setChannel x.data.channel ch s).latched e = s.latched e := rfl
    rw [hset]
    tauto
  · simp only [if_true, latched_raiseIf, Bool.or_eq_true, Bool.and_eq_true, decide_eq_true_eq,
      Channel.closesApplied_iff]
    have hset (ch : Channel) : (setChannel x.data.channel ch s).latched e = s.latched e := rfl
    rw [hset]
    simp only [Bool.true_eq_false, false_and, and_false, or_false, true_and, and_comm (b := e = .channelClosed)]

theorem latched_publishCovered (e : Event) (x : FlightFold) (s : State) :
    (publishCovered x s).latched e = true ↔ s.latched e = true ∨
      (e = .overrun ∧ x.placed = false ∧ 65535 < s.channels[x.data.channel].run.unfolded + x.data.count) := by
  have hset (ch : Channel) : (setChannel x.data.channel ch s).latched e = s.latched e := rfl
  simp only [publishCovered, latched_raiseIf, Bool.or_eq_true, Bool.and_eq_true, Bool.not_eq_true', decide_eq_true_eq,
    ChannelRun.losesBack_iff, hset]
  tauto

/-- R132, R139: a covered channel's part changes no other channel. -/
theorem publishCovered_other {x : FlightFold} {k : Fin 8} (h : x.data.channel ≠ k) (s : State) :
    (publishCovered x s).channels[k] = s.channels[k] := by
  obtain ⟨ev, e⟩ := publishCovered_eq s x
  have hchannels : (publishCovered x s).channels = coveredPublished s.channels x := by rw [e]
  rw [hchannels, coveredPublished, getElem_set_channel, if_neg h]

/-- R139: OVERRUN where some return of the emergency fold loses pulses. -/
theorem latched_publishCovered_all (e : Event) (folds : List FlightFold) :
    ∀ s : State, (folds.map fun x => x.data.channel).Nodup →
      ((folds.foldl (fun s f => publishCovered f s) s).latched e = true ↔ s.latched e = true ∨
        (e = .overrun ∧ ∃ x ∈ folds, x.placed = false ∧
          65535 < s.channels[x.data.channel].run.unfolded + x.data.count)) := by
  induction folds with
  | nil => simp
  | cons x rest ih =>
    intro s hn
    obtain ⟨hx, hrest⟩ := List.nodup_cons.1 hn
    have hsame : ∀ y ∈ rest, (publishCovered x s).channels[y.data.channel] = s.channels[y.data.channel] :=
      fun y hy => publishCovered_other (fun h => hx (List.mem_map.2 ⟨y, hy, h.symm⟩)) s
    have hlater : (∃ y ∈ rest, y.placed = false ∧
          65535 < (publishCovered x s).channels[y.data.channel].run.unfolded + y.data.count) ↔
        ∃ y ∈ rest, y.placed = false ∧ 65535 < s.channels[y.data.channel].run.unfolded + y.data.count :=
      exists_congr fun y => and_congr_right fun hy => by rw [hsame y hy]
    rw [List.foldl_cons, ih _ hrest, latched_publishCovered, hlater, List.exists_mem_cons_iff, or_assoc, and_or_left]

/-- R139: the channels after the emergency fold: each covered one at its end, the others as they were. -/
theorem foldl_coveredPublished (folds : List FlightFold) :
    ∀ channels : Vector Channel 8, (folds.map fun x => x.data.channel).Nodup →
      (∀ x ∈ folds, (folds.foldl coveredPublished channels)[x.data.channel] =
        channels[x.data.channel].endEmergency x) ∧
      ∀ k : Fin 8, (∀ x ∈ folds, x.data.channel ≠ k) → (folds.foldl coveredPublished channels)[k] = channels[k] := by
  induction folds with
  | nil => exact fun _ _ => ⟨nofun, fun _ _ => rfl⟩
  | cons x rest ih =>
    intro channels hn
    obtain ⟨hx, hrest⟩ := List.nodup_cons.1 hn
    obtain ⟨hcovered, hothers⟩ := ih (coveredPublished channels x) hrest
    have hne : ∀ y ∈ rest, y.data.channel ≠ x.data.channel := fun y hy h => hx (List.mem_map.2 ⟨y, hy, h⟩)
    have hstep (k : Fin 8) : (coveredPublished channels x)[k] =
        if x.data.channel = k then channels[x.data.channel].endEmergency x else channels[k] :=
      getElem_set_channel _ _ _ _
    refine ⟨fun y hy => ?_, fun k hk => ?_⟩
    · rw [List.foldl_cons]
      rcases List.mem_cons.1 hy with rfl | hy
      · rw [hothers _ hne, hstep, if_pos rfl]
      · rw [hcovered y hy, hstep, if_neg (hne y hy).symm]
    · rw [List.foldl_cons, hothers k fun y hy => hk y (List.mem_cons_of_mem _ hy), hstep,
        if_neg (hk x List.mem_cons_self)]

/-! ### The publication of a FOLD (R131, R132) -/

section
variable {s : State} {c : Commit} {f : InFlight}

theorem fold_not_queued {i : FlightItem} {k : Fin 8} (h : i = .fold k) : ¬∃ q, i = .queued q := by
  rintro ⟨q, rfl⟩
  cases h

theorem emergency_not_queued {i : FlightItem} (h : i = .emergency) : ¬∃ q, i = .queued q := by
  rintro ⟨q, rfl⟩
  cases h

/-- R131, R132: the channel of a published FOLD. -/
def foldEnded (s : State) (k : Fin 8) (x : FlightFold) : Channel :=
  if x.placed then s.channels[k].endApplied s.pfTaken else s.channels[k].endRejected x.data

theorem foldEnded_config (s : State) (k : Fin 8) (x : FlightFold) : (foldEnded s k x).config = s.channels[k].config := by
  unfold foldEnded
  split
  · by_cases h : s.channels[k].run.state = .draining ∧ s.channels[k].run.unfolded = 0
    · rw [Channel.endApplied_closes _ h]
    · rw [Channel.endApplied_open _ h]
  · rfl

/-- R107, R131, R132: everything that the publication of a FOLD changes. -/
theorem publishedState_fold {k : Fin 8} {x : FlightFold} (hitem : f.item = .fold k) (hfolds : f.prepared.folds = [x])
    (hk : x.data.channel = k) (hbank : f.prepared.bank = none) (hconfig : f.prepared.channelConfig = none)
    (hcapture : f.prepared.capture = none) (c : Commit) (s : State) :
    publishedState f c s = { s with
      nv := s.nv.writeControl true c.intent.controlCopy c.intent.control
      current := s.current.afterCommit c.intent
      commit := none
      totals := totalsPublished s.totals f.prepared
      journal := { s.journal with
        counter := s.journal.counter + 1, entries := s.journal.entries ++ [f.prepared.entry] }
      generation := f.prepared.control.generation
      channels := s.channels.set k (foldEnded s k x)
      events := (publishOwners f (commitRetired c s)).events
      engine := { s.engine with
        state := if 30 ≤ s.journal.entries.length then .held else .idle, inFlight := none } } := by
  subst hk
  rw [publishedState_eq, constantsPublished, checkpointsPublished, hitem, hfolds, hbank, hconfig, hcapture]
  rfl

theorem publishedState_latched_fold {k : Fin 8} {x : FlightFold} (hitem : f.item = .fold k)
    (hfolds : f.prepared.folds = [x]) (hk : x.data.channel = k) (hconfig : f.prepared.channelConfig = none)
    (c : Commit) (s : State) (e : Event) :
    (publishedState f c s).latched e = true ↔ s.latched e = true ∨ e = .completion ∨
      (e = .journalFull ∧ 30 ≤ s.journal.entries.length) ∨ (e = .limit ∧ FlagRises s.totals f.prepared) ∨
      (e = .channelClosed ∧ x.placed = true ∧ s.channels[k].run.state = .draining ∧
        s.channels[k].run.unfolded = 0) ∨
      (e = .channelFault ∧ x.placed = false) ∨
      (e = .overrun ∧ x.placed = false ∧ 65535 < s.channels[k].run.unfolded + x.data.count) := by
  subst hk
  have hpart : publishChannels f.item f.prepared.folds (publishTables f (commitRetired c s)) =
      publishFold x (publishTables f (commitRetired c s)) := by rw [hitem, hfolds]; rfl
  obtain ⟨hsame, hjournal, htotals, hchannels, -⟩ := commitRetired_reads c s
  have hqueued := fold_not_queued hitem
  rw [publishedState_latched, hpart, latched_publishFold, publishTables_channels, hconfig, channelsConfigured,
    latched_publishTables, hsame, hjournal, htotals, hchannels]
  simp only [hqueued, false_and, and_false, false_or, or_assoc]

/-- Settles O46: the channel closes, may request again, or takes its pulses back. -/
theorem publishedFold : Obligations.PublishedFold := by
  intro s c f k x hretire hitem hfolds hk hn hbank hconfig hcapture hd
  have hnot : f.item ≠ .emergency := by rw [hitem]; nofun
  have hstate := publishedState_fold hitem hfolds hk hbank hconfig hcapture c s
  have hchannel : (publishedState f c s).channels[k] = foldEnded s k x := by simp [hstate]
  refine ⟨publishedState f c s, ?completes, ?next, publishedState_given f c s hn, fun ⟨hx, hstop⟩ => ?closed,
    fun hx hopen => ?applied, fun hx => ?rejected, publishedState_latched_fold hitem hfolds hk hconfig c s⟩
  case completes =>
    refine hretire.exec_commitCompletion.trans (congrArg _ ?_)
    cases hp : s.pfTaken
    · exact completeCommit_plain hnot hp hd
    · exact completeCommit_powerFailed hnot hp
  case next =>
    have htotals : (publishedState f c s).totals = totalsPublished s.totals f.prepared := by rw [hstate]
    have hevents : (publishedState f c s).events = (publishOwners f (commitRetired c s)).events := rfl
    have hfold : ({ config := s.channels[k].config, run := (publishedState f c s).channels[k].run } : Channel) =
        foldEnded s k x := by
      rw [hchannel, ← foldEnded_config]
    rw [hfold, htotals, hevents]
    exact hstate
  case closed => rw [hchannel, foldEnded, if_pos hx, Channel.endApplied_closes _ hstop]
  case applied => rw [hchannel, foldEnded, if_pos hx, Channel.endApplied_open _ fun h => hopen ⟨hx, h⟩]
  case rejected => rw [hchannel, foldEnded, if_neg (Bool.eq_false_iff.1 hx), Channel.endRejected_eq]

/-! ### What follows a publication (R114, R139, R171, R173) -/

/-- R139, R171: the publication of the EMERGENCY_FOLD ends in POWERDOWN. -/
theorem publishedEmergency (hretire : s.AtRetire c f) (hitem : f.item = .emergency)
    (hnodup : (f.prepared.folds.map fun x => x.data.channel).Nodup) (hn : (f.prepared.records.map Prod.fst).Nodup)
    (hbank : f.prepared.bank = none) (hconfig : f.prepared.channelConfig = none)
    (hcapture : f.prepared.capture = none) :
    ∃ t, exec .commitCompletion s = .next t ∧
      t = { s with
        nv := s.nv.writeControl true c.intent.controlCopy c.intent.control
        current := s.current.afterCommit c.intent
        commit := none
        totals := t.totals
        journal := { s.journal with
          counter := s.journal.counter + 1, entries := s.journal.entries ++ [f.prepared.entry] }
        generation := f.prepared.control.generation
        channels := t.channels
        events := t.events
        device := .powerdown
        engine := { s.engine with state := .stopped, inFlight := none } } ∧
      TotalsGiven s.totals t.totals f.prepared ∧
      (∀ x ∈ f.prepared.folds, t.channels[x.data.channel] =
        { config := s.channels[x.data.channel].config
          run := if x.placed = true then { s.channels[x.data.channel].run with inFlight := none }
            else s.channels[x.data.channel].run.returned x.data }) ∧
      (∀ k : Fin 8, (∀ x ∈ f.prepared.folds, x.data.channel ≠ k) → t.channels[k] = s.channels[k]) ∧
      ∀ e : Event, t.latched e = true ↔ s.latched e = true ∨ e = .completion ∨
        (e = .journalFull ∧ 30 ≤ s.journal.entries.length) ∨ (e = .limit ∧ FlagRises s.totals f.prepared) ∨
        (e = .overrun ∧ ∃ x ∈ f.prepared.folds, x.placed = false ∧
          65535 < s.channels[x.data.channel].run.unfolded + x.data.count) := by
  have hstate := publishedState_eq f c s
  rw [constantsPublished, checkpointsPublished, hitem, hbank, hconfig, hcapture] at hstate
  have hchannels : (publishedState f c s).channels = f.prepared.folds.foldl coveredPublished s.channels := by
    rw [hstate]; rfl
  obtain ⟨hcovered, hothers⟩ := foldl_coveredPublished f.prepared.folds s.channels hnodup
  have hexec := hretire.exec_commitCompletion.trans (congrArg _ (completeCommit_emergency hitem))
  refine ⟨_, hexec, ?next, publishedState_given f c s hn, fun x hx => ?covered, fun k hk => ?other, fun e => ?events⟩
  case next =>
    have htotals : (enterPowerdown (publishedState f c s)).totals = totalsPublished s.totals f.prepared :=
      congrArg State.totals hstate
    have hkept : (enterPowerdown (publishedState f c s)).channels = f.prepared.folds.foldl coveredPublished s.channels :=
      hchannels
    have hevents : (enterPowerdown (publishedState f c s)).events = (publishOwners f (commitRetired c s)).events := rfl
    rw [htotals, hkept, hevents]
    exact congrArg enterPowerdown hstate
  case covered =>
    have h : (publishedState f c s).channels[x.data.channel] = s.channels[x.data.channel].endEmergency x := by
      rw [hchannels, hcovered x hx]
    rw [← Channel.endEmergency_eq]
    exact h
  case other =>
    have h : (publishedState f c s).channels[k] = s.channels[k] := by rw [hchannels, hothers k hk]
    exact h
  case events =>
    have hpart : publishChannels f.item f.prepared.folds (publishTables f (commitRetired c s)) =
        f.prepared.folds.foldl (fun s f => publishCovered f s) (publishTables f (commitRetired c s)) := by
      rw [hitem]; rfl
    obtain ⟨hsame, hjournal, htotals, hread, -⟩ := commitRetired_reads c s
    have hqueued := emergency_not_queued hitem
    have hdown : (enterPowerdown (publishedState f c s)).latched e = (publishedState f c s).latched e := rfl
    rw [hdown, publishedState_latched, hpart, latched_publishCovered_all e _ _ hnodup, publishTables_channels, hconfig,
      channelsConfigured, latched_publishTables, hsame, hjournal, htotals, hread]
    simp only [hqueued, false_and, and_false, false_or]
    tauto

/-- R107, R171: the publication of a queued item asks neither whether a PFAIL assertion has been taken nor whether a
SOFT_RESET is deferred. -/
theorem publishedState_queued_marks {q : QueueItem} (hq : f.item = .queued q) (c : Commit) (s : State) :
    publishedState f c s =
      { publishedState f c { s with pfTaken := false, engine := { s.engine with deferredReset := false } } with
        pfTaken := s.pfTaken
        engine := {
          (publishedState f c { s with pfTaken := false, engine := { s.engine with deferredReset := false } }).engine with
          deferredReset := s.engine.deferredReset } } := by
  have hevents : (publishedState f c s).events =
      (publishedState f c { s with pfTaken := false, engine := { s.engine with deferredReset := false } }).events := by
    apply events_ext
    intro e
    rw [Bool.eq_iff_iff, publishedState_latched_queued hq, publishedState_latched_queued hq]
    exact Iff.rfl
  have hown (s : State) : (publishOwners f (commitRetired c s)).events = (publishedState f c s).events := rfl
  have hleft := publishedState_eq f c s
  have hright := publishedState_eq f c { s with pfTaken := false, engine := { s.engine with deferredReset := false } }
  rw [hown, hq] at hleft hright
  rw [hevents] at hleft
  generalize publishedState f c { s with pfTaken := false, engine := { s.engine with deferredReset := false } } = u
    at hleft hright ⊢
  rw [hleft]
  have hall := hright
  generalize u.events = ev at hall ⊢
  rw [hall]
  rfl

/-- R114, R174: of the publication before it, a SOFT_RESET keeps what it would keep without one deferred. -/
theorem beginStartup_publishedState (f : InFlight) (c : Commit) (s : State) :
    beginStartup (publishedState f c s) =
      (publishedState f c { s with engine := { s.engine with deferredReset := false } }).restarted
        (publishedState f c { s with engine := { s.engine with deferredReset := false } }).port := by
  rw [beginStartup_eq, publishedState_eq, publishedState_eq]
  rfl

/-- Settles O47: POWERDOWN, the emergency step and the deferred SOFT_RESET. -/
theorem afterPublication_follows : Obligations.AfterPublication := by
  refine ⟨fun s c f => publishedEmergency, fun s c f q hretire hq hp => ?powerFailed,
    fun s c f hretire hitem hp hd => ?reset⟩
  case powerFailed =>
    have hnot : f.item ≠ .emergency := by rw [hq]; nofun
    have hclear : ({ s with pfTaken := false, engine := { s.engine with deferredReset := false } } : State).AtRetire c f :=
      hretire
    refine ⟨_, hclear.exec_commitCompletion.trans (congrArg _ (completeCommit_plain hnot rfl rfl)), ?_⟩
    refine hretire.exec_commitCompletion.trans (congrArg _ ?_)
    rw [completeCommit_powerFailed hnot hp, publishedState_queued_marks hq c s, hp]
  case reset =>
    have hclear : ({ s with engine := { s.engine with deferredReset := false } } : State).AtRetire c f := hretire
    refine ⟨_, hclear.exec_commitCompletion.trans (congrArg _ (completeCommit_plain hitem hp rfl)), ?_⟩
    refine hretire.exec_commitCompletion.trans (congrArg _ ?_)
    rw [completeCommit_reset hitem hp hd, beginStartup_publishedState]

end

end Sys2Proof.Machine
end

section
/-! PROOFS. A commit spares the copies in force (R165, R166), and the laws hold of the state after reset. -/

namespace Sys2Proof.Machine

/-! ### The copies a commit writes (R165, R166) -/

/-- R165: a new content is written to every copy that is not current. -/
theorem Current.mem_targets {cur : Current} {c : CopyId} : c ∈ cur.targets ↔ cur ≠ .copy c := by
  cases cur with
  | neither => cases c <;> simp [Current.targets]
  | copy d => cases c <;> cases d <;> simp [Current.targets, CopyId.other]

/-- Settles O50, by what stands among the writes of a commit. -/
theorem commitSparesCurrent : Obligations.CommitSparesCurrent := by
  intro current p configs
  refine ⟨rfl, rfl, CopyId.other_ne _, mem_commitTables.2 (.inr (.inl rfl)), fun t c w r => ?home, fun c w b => ?active,
    fun c w x => ?channels⟩ <;> refine mem_commitTables.trans ?_
  case home =>
    constructor
    · rintro (⟨⟨u, r'⟩, hr, d, hd, e⟩ | e | ⟨b, -, d, -, e⟩ | ⟨x, -, d, -, e⟩ | ⟨x, -, e⟩) <;> cases e
      exact ⟨hr, Current.mem_targets.1 hd, rfl⟩
    · rintro ⟨hr, hc, rfl⟩
      exact .inl ⟨(t, r), hr, c, Current.mem_targets.2 hc, rfl⟩
  case active =>
    constructor
    · rintro (⟨r, -, d, -, e⟩ | e | ⟨b', hb, d, hd, e⟩ | ⟨x, -, d, -, e⟩ | ⟨x, -, e⟩) <;> cases e
      exact ⟨hb, Current.mem_targets.1 hd, rfl⟩
    · rintro ⟨hb, hc, rfl⟩
      exact .inr (.inr (.inl ⟨b, hb, c, Current.mem_targets.2 hc, rfl⟩))
  case channels =>
    constructor
    · rintro (⟨r, -, d, -, e⟩ | e | ⟨b, -, d, -, e⟩ | ⟨⟨k, n⟩, hx, d, hd, e⟩ | ⟨y, -, e⟩) <;> cases e
      exact ⟨k, n, hx, rfl, Current.mem_targets.1 hd, rfl⟩
    · rintro ⟨k, n, hx, rfl, hc, rfl⟩
      exact .inr (.inr (.inr (.inl ⟨(k, n), hx, c, Current.mem_targets.2 hc, rfl⟩)))

/-! ### The state after reset -/

/-- What the state after reset stores is what format leaves. -/
theorem reset_stores (L : StoredLaw) : State.reset.Stores L where
  nv := keeps_formatted
  commit := forall_mem_of_none rfl
  startup := fun j hj => by
    cases hj
    exact ⟨forall_mem_of_nil rfl, L.formatted, L.formatted⟩

theorem reset_queueLaw : QueueLaw State.reset :=
  ⟨Nat.zero_le _, Nat.zero_le _, forall_mem_of_nil rfl, List.nodup_nil, fun _ _ => forall_mem_of_nil rfl⟩

theorem reset_slotLaw : SlotLaw State.reset :=
  ⟨fun i h => by simp [State.reset, State.cleared] at h, forall_mem_of_none rfl⟩

/-- The start-up of the state after reset writes the boot number after the formatted control block. -/
theorem reset_startupMatches : StartupMatches State.reset := by
  intro j hj
  cases hj
  exact ⟨fun _ => ⟨rfl, fun _ => List.not_mem_nil⟩, fun h => absurd rfl h⟩

/-- Settles O52, law by law. -/
theorem lawsAtReset : Obligations.LawsAtReset := by
  have hflight : State.reset.engine.inFlight = none := rfl
  refine ⟨fun _ => ⟨rfl, hflight, rfl⟩, (totalsLaw_iff _).2 ⟨?totals, reset_stores _⟩, reset_queueLaw,
    (journalLaw_iff _).2 ⟨Journal.lawful_empty, fun _ => Nat.succ_pos _, forall_mem_of_none hflight, reset_stores _⟩,
    (channelLaw_iff _).2 ⟨?channels, reset_stores _⟩,
    forall_mem_of_none hflight, reset_slotLaw, risesLaw_of_no_flight hflight, forall_mem_of_none rfl,
    reset_startupMatches, fun h => absurd rfl h⟩
  case totals => exact (State.TotalsKept.reset State.reset).of_eq rfl rfl rfl rfl rfl
  case channels => exact (State.ChannelsKept.reset State.reset).of_eq rfl rfl rfl rfl rfl

end Sys2Proof.Machine
end

section
/-! PROOFS. Start-up: its writes one by one, what its end loads and reports, and the values of a failed format (R150,
R163, R168, R176 to R182). -/

namespace Sys2Proof.Machine

/-! ### One write of start-up that is cut or fails (R164, R177) -/

theorem Pair.set_set {α : Type} (p : Pair α) (c : CopyId) (x y : Area α) : (p.set c x).set c y = p.set c y := by
  cases c <;> rfl

/-- R164: a failed start-up write leaves its area failing its check. -/
theorem NvArray.write_failsAtWrite (nv : NvArray) (w : NvWrite) : (nv.write false w).FailsAtWrite w := by
  cases w with
  | table w => exact nv.writeTable_failsAt w
  | control c b => exact (nv.controlArea_writeControl false c c b).trans (if_pos rfl)
  | noIntent => rfl
  | spoilHome t c => simp [NvArray.write, NvArray.FailsAtWrite]
  | spoilActive c => simp [NvArray.write, NvArray.FailsAtWrite]
  | spoilChannels c => simp [NvArray.write, NvArray.FailsAtWrite]
  | spoilSlot i => simp [NvArray.write, NvArray.FailsAtWrite]

/-- A table write made again overwrites the area of the failed one. -/
theorem NvArray.writeTable_again (nv : NvArray) (done : Bool) (w : TableWrite) :
    (nv.writeTable done w).writeTable true w = nv.writeTable true w := by
  cases w <;> simp [NvArray.writeTable, Pair.set_set]

theorem NvArray.writeControl_again (nv : NvArray) (done : Bool) (c : CopyId) (b : ControlBlock) :
    (nv.writeControl done c b).writeControl true c b = nv.writeControl true c b := by
  cases c <;> rfl

/-- A start-up write made again overwrites the area of the failed one. -/
theorem NvArray.write_again (nv : NvArray) (done : Bool) (w : NvWrite) :
    (nv.write done w).write true w = nv.write true w := by
  cases w with
  | table w => exact nv.writeTable_again done w
  | control c b => exact nv.writeControl_again done c b
  | noIntent => rfl
  | spoilHome t c => simp [NvArray.write, Pair.set_set]
  | spoilActive c => simp [NvArray.write, Pair.set_set]
  | spoilChannels c => simp [NvArray.write, Pair.set_set]
  | spoilSlot i => simp [NvArray.write]

theorem StartupJob.underWay_cons {j : StartupJob} {w : NvWrite} {rest : List NvWrite} (h : j.settle = w :: rest) :
    j.underWay = w := by
  unfold StartupJob.underWay
  rw [h]

theorem StartupJob.underWay_nil {j : StartupJob} (h : j.settle = []) :
    j.underWay = .control j.copy.other { j.control with boot := j.control.boot + 1 } := by
  unfold StartupJob.underWay
  rw [h]
  rfl

/-! ### The writes that are read back (R181) -/

section
variable {s : State} {j : StartupJob}

theorem exec_startupWriteCompletion (hp : s.powered = true) (hr : s.resetPin = false)
    (hj : s.startup = some (.writing j)) (matched : Bool) :
    exec (.startupWriteCompletion matched) s = .next (startupWriteDone matched j s) := by
  have e : exec (.startupWriteCompletion matched) s = execStartupWriteCompletion matched s := rfl
  have hruns : s.runs = true := by simp [State.runs, hp, hr]
  rw [e, execStartupWriteCompletion, hj]
  exact if_pos hruns

theorem startupWriteDone_settled (s : State) {w : NvWrite} {rest : List NvWrite} (h : j.settle = w :: rest) :
    startupWriteDone true j s = { s with nv := s.nv.write true w, startup := some (.writing j.advance) } := by
  simp only [startupWriteDone, StartupJob.underWay_cons h, h, if_true]

theorem startupWriteDone_retried (s : State) (h : j.retried = false) :
    startupWriteDone false j s =
      { s with nv := s.nv.write false j.underWay, startup := some (.writing { j with retried := true }) } := by
  simp [startupWriteDone, h]

/-- R180, R181: start-up ends when its last write is read back, or a write fails the second time. -/
theorem startupWriteDone_ends (s : State) (fails : Bool) (hdone : fails = false → j.settle = [])
    (hfailed : fails = true → j.retried = true) :
    startupWriteDone (!fails) j s = endStartup j fails { s with nv := s.nv.write (!fails) j.underWay } := by
  cases fails
  · simp [startupWriteDone, hdone rfl]
  · simp [startupWriteDone, hfailed rfl]

end

/-! ### The loads (R150, R163, R178, R179) -/

section
variable (nv : NvArray) (b : ControlBlock)

theorem restoreEntries_length : (restoreEntries nv b).length = min (b.counter - b.head).toNat 32 := by
  rw [restoreEntries, List.length_map, List.length_range]
  rfl

theorem restoreEntries_getElem (n : Nat) (h : n < (restoreEntries nv b).length) :
    (restoreEntries nv b)[n] = readRing nv (b.head + BitVec.ofNat 32 n) := by
  simp [restoreEntries]

/-- R150: a ring position gives the entry of the number it is read for. -/
theorem readRing_of_entry {nv : NvArray} {n : Word} {w : Writer} {e : JournalEntry}
    (h : nv.ring[ringPosition n] = .good w e) (hn : e.number = n) : readRing nv n = e := by
  unfold readRing
  rw [h]
  exact if_pos hn

/-- R151: a position without it gives a DAMAGED entry. -/
theorem readRing_damaged {nv : NvArray} {n : Word}
    (h : ∀ w e, nv.ring[ringPosition n] = .good w e → e.number ≠ n) : (readRing nv n).source = .damaged := by
  unfold readRing
  split
  · next w e hgood => rw [if_neg (h w e hgood)]; rfl
  · rfl

/-- R163, R179: a slot is FILLED exactly when its area holds a capture and is usable. -/
theorem restoreSlot_content {k : Word} {a : Area (Option Capture)} {x : Capture} :
    (restoreSlot k a).content = some x ↔ a.usable k = true ∧ a.content = some (some x) := by
  unfold restoreSlot
  cases a with
  | bad => simp [Area.usable]
  | good w y => by_cases h : (Area.good w y).usable k = true <;> simp [h, Area.content]

theorem restoreSlot_format {k : Word} : restoreSlot k (.good .format none) = ⟨none, false, false⟩ := rfl

/-- R182: a slot's area is listed as emptied. -/
theorem slotEmptied_iff {k : Word} {a : Area (Option Capture)} :
    slotEmptied k a = true ↔ a = .bad ∨ ∃ w x, a = .good w (some x) ∧ a.usable k = false := by
  cases a with
  | bad => simp [slotEmptied]
  | good w y => cases y <;> simp [slotEmptied]

theorem filter_finRange_pairwise {n : Nat} (p : Fin n → Bool) : ((List.finRange n).filter p).Pairwise (· < ·) :=
  (List.sortedLT_finRange n).pairwise.sublist List.filter_sublist

end

/-! ### The end of start-up (R178 to R182) -/

section
variable (j : StartupJob) (fault : Bool) (s : State)

/-- R180: READY is raised, NV_FAULT after a failure, and PFAIL where the line is asserted. -/
theorem endStartup_latched (e : Event) :
    (endStartup j fault s).latched e = true ↔ s.latched e = true ∨ e = .ready ∨ (e = .nvFault ∧ fault = true) ∨
      (e = .pfail ∧ s.pfail = true) := by
  unfold endStartup
  simp only [latched_raiseIf, latched_raise, Bool.or_eq_true, Bool.and_eq_true, decide_eq_true_eq, or_assoc,
    and_comm (b := e = .nvFault), and_comm (b := e = .pfail)]
  simp only [State.latched, loadTables]

/-- R178 to R182: the fields that the end of start-up gives. -/
theorem endStartup_fields :
    let nv := j.loadedArray fault s.nv
    let t := endStartup j fault s
    t.totals = Vector.ofFn (fun i => restoreTotaliser j.control.counter nv.home[i]) ∧
    t.constants =
      { active := restoreBank j.control.counter nv.active, pending := restoreBank j.control.counter nv.active
        epoch := j.control.epoch, lock := none } ∧
    t.channels = restoreChannels j.control.counter nv.channels ∧
    t.checkpoints =
      { slots := Vector.ofFn fun i => restoreSlot j.control.counter nv.slots[i], counter := j.control.checkpoint } ∧
    t.journal =
      { counter := j.control.counter, head := j.control.head, entries := restoreEntries nv j.control } ∧
    t.current =
      { control := if fault then j.copy else j.copy.other
        home := Vector.ofFn fun t => nv.home[t].choose j.control.counter
        active := nv.active.choose j.control.counter
        channels := nv.channels.choose j.control.counter } ∧
    t.report = startupReport nv j.control (j.control.boot + 1) j.action fault ∧
    t.device = deviceAfterStartup s.pfail fault ∧
    t.engine.state = engineAfterStartup s.pfail fault (restoreEntries nv j.control).length := by
  obtain ⟨ev, e⟩ := endStartup_eq j fault s
  simp only [e, loadTables, and_self]

/-- R178 to R181: what the end of start-up leaves as it was. -/
theorem endStartup_keeps :
    endStartup j fault s = { s with
      startup := none
      boot := j.control.boot + 1
      generation := j.control.generation
      totals := (endStartup j fault s).totals
      constants := (endStartup j fault s).constants
      channels := (endStartup j fault s).channels
      checkpoints := (endStartup j fault s).checkpoints
      journal := (endStartup j fault s).journal
      current := (endStartup j fault s).current
      report := (endStartup j fault s).report
      device := (endStartup j fault s).device
      pfTaken := s.pfail
      engine := { s.engine with state := (endStartup j fault s).engine.state }
      events := (endStartup j fault s).events } := by
  obtain ⟨ev, e⟩ := endStartup_eq j fault s
  simp only [e, loadTables]

end

/-- R180: the device and engine states at the end of start-up. -/
theorem endStartup_states (j : StartupJob) (fault : Bool) (s : State) :
    (s.pfail = true → (endStartup j fault s).device = .powerdown ∧ (endStartup j fault s).engine.state = .stopped) ∧
    (s.pfail = false →
      (fault = true → (endStartup j fault s).device = .halted ∧ (endStartup j fault s).engine.state = .halted) ∧
      (fault = false → (endStartup j fault s).device = .ready ∧ (endStartup j fault s).engine.state =
        (if 31 ≤ (endStartup j fault s).journal.entries.length then .held else .idle))) := by
  obtain ⟨-, -, -, -, hjournal, -, -, hdevice, hengine⟩ := endStartup_fields j fault s
  rw [hdevice, hengine, hjournal]
  refine ⟨fun hp => ?_, fun hp => ⟨fun hf => ?_, fun hf => ?_⟩⟩
  · rw [hp]; exact ⟨rfl, rfl⟩
  · rw [hp, hf]; exact ⟨rfl, rfl⟩
  · rw [hp, hf]; exact ⟨rfl, rfl⟩

/-! ### A format that fails (R176, R181) -/

section
variable {k : Word}

theorem Pair.load_format {α : Type} (k : Word) (x : α) : Pair.load k ⟨.good .format x, .good .format x⟩ = some x := by
  simp [Pair.load, Pair.choose, Area.usable, Pair.get, Area.content]

theorem Pair.choose_format {α : Type} (k : Word) (x y : α) :
    Pair.choose k ⟨.good .format x, .good .format y⟩ = .copy .a := by
  simp [Pair.choose, Area.usable, Area.distance]

theorem formatted_home (t : Fin 64) :
    NvArray.formatted.home[t] = ⟨.good .format Record.unused, .good .format Record.unused⟩ := by
  simp [NvArray.formatted]

theorem formatted_slot (i : Fin 4) : NvArray.formatted.slots[i] = .good .format none := by simp [NvArray.formatted]

theorem formatted_active :
    NvArray.formatted.active = ⟨.good .format (Vector.replicate 32 none), .good .format (Vector.replicate 32 none)⟩ :=
  rfl

theorem formatted_channels : NvArray.formatted.channels =
    ⟨.good .format (Vector.replicate 8 ChannelConfig.formatted),
      .good .format (Vector.replicate 8 ChannelConfig.formatted)⟩ := rfl

theorem restoreEntries_formatted (nv : NvArray) : restoreEntries nv ControlBlock.formatted = [] := rfl

/-- R176, R182: the report of a failed format lists nothing as lost. -/
theorem startupReport_formatted (boot : Word) :
    startupReport NvArray.formatted ControlBlock.formatted boot .formatted true =
      { boot := boot, action := .formatted, faulted := [], emptied := [], damaged := 0, constantsLost := false,
        channelsLost := false, nvFault := true } := by
  have hfaulted : ((List.finRange 64).filter fun t =>
      (NvArray.formatted.home[t].load ControlBlock.formatted.counter).isNone) = [] :=
    List.filter_eq_nil_iff.2 fun t _ => by rw [formatted_home, Pair.load_format]; decide
  have hemptied : ((List.finRange 4).filter fun i =>
      slotEmptied ControlBlock.formatted.counter NvArray.formatted.slots[i]) = [] :=
    List.filter_eq_nil_iff.2 fun i _ => by rw [formatted_slot]; decide
  rw [startupReport, hfaulted, hemptied, restoreEntries_formatted, formatted_active, formatted_channels,
    Pair.load_format, Pair.load_format]
  rfl

/-- R176, R181: a format that fails twice leaves R176's values in RAM. -/
theorem endStartup_unformatted {j : StartupJob} (hsettle : j.settle ≠ []) (haction : j.action = .formatted)
    (hcontrol : j.control = ControlBlock.formatted) (s : State) :
    let t := endStartup j true s
    t.totals = Vector.replicate 64 ⟨Record.unused, false, false, false⟩ ∧
    t.constants =
      { active := Vector.replicate 32 none, pending := Vector.replicate 32 none, epoch := 0, lock := none } ∧
    t.channels = Vector.replicate 8 ⟨ChannelConfig.formatted, ChannelRun.fresh false⟩ ∧
    t.checkpoints = { slots := Vector.replicate 4 ⟨none, false, false⟩, counter := 1 } ∧
    t.journal = { counter := 1, head := 1, entries := [] } ∧
    t.current =
      { control := j.copy, home := Vector.replicate 64 (.copy .a), active := .copy .a, channels := .copy .a } ∧
    t.report =
      { boot := 1, action := .formatted, faulted := [], emptied := [], damaged := 0, constantsLost := false,
        channelsLost := false, nvFault := true } := by
  have hload : j.loadedArray true s.nv = NvArray.formatted := by
    unfold StartupJob.loadedArray
    exact if_pos (by simp [haction, hsettle])
  obtain ⟨htotals, hconstants, hchannels, hcheckpoints, hjournal, hcurrent, hreport, -⟩ := endStartup_fields j true s
  rw [hload, hcontrol] at htotals hconstants hchannels hcheckpoints hcurrent hreport
  rw [hload, hcontrol, restoreEntries_formatted] at hjournal
  rw [haction, startupReport_formatted] at hreport
  refine ⟨htotals.trans ?totals, hconstants.trans ?constants, hchannels.trans ?channels,
    hcheckpoints.trans ?checkpoints, hjournal, hcurrent.trans ?current, hreport⟩
  case totals =>
    apply Vector.ext
    intro i hi
    rw [Vector.getElem_ofFn, Vector.getElem_replicate, formatted_home, restoreTotaliser, Pair.load_format]
    rfl
  case constants =>
    rw [formatted_active, restoreBank, Pair.load_format]
    rfl
  case channels =>
    rw [formatted_channels, restoreChannels, Pair.load_format]
    apply Vector.ext
    intro i hi
    simp [ChannelConfig.formatted]
  case checkpoints =>
    have hslots : (Vector.ofFn fun i : Fin 4 =>
        restoreSlot ControlBlock.formatted.counter NvArray.formatted.slots[i]) =
          Vector.replicate 4 ⟨none, false, false⟩ := by
      apply Vector.ext
      intro i hi
      rw [Vector.getElem_ofFn, Vector.getElem_replicate, formatted_slot, restoreSlot_format]
    rw [hslots]
    rfl
  case current =>
    have hhome : (Vector.ofFn fun t : Fin 64 =>
        NvArray.formatted.home[t].choose ControlBlock.formatted.counter) = Vector.replicate 64 (.copy .a) := by
      apply Vector.ext
      intro i hi
      rw [Vector.getElem_ofFn, Vector.getElem_replicate, formatted_home, Pair.choose_format]
    rw [hhome, formatted_active, formatted_channels, Pair.choose_format, Pair.choose_format]
    rfl

end

/-! ### The steps of start-up -/

/-- R178 to R182: what the end of start-up loads, reports and raises, unless a format failed. -/
theorem endStartup_loads (j : StartupJob) (fault : Bool) (s : State) (hload : j.loadedArray fault s.nv = s.nv) :
    let t := endStartup j fault s
    let k := j.control.counter
    (∀ i : Fin 64, t.totals[i] = ⟨(s.nv.home[i].load k).getD Record.lost, false, false, false⟩) ∧
    (∀ c : Fin 8, t.channels[c].config =
        ((s.nv.channels.load k).getD (Vector.replicate 8 ChannelConfig.formatted))[c] ∧
      t.channels[c].run = ChannelRun.fresh t.channels[c].config.enabled) ∧
    (∀ i : Fin 4, t.checkpoints.slots[i].pinned = false ∧ t.checkpoints.slots[i].inFlight = false ∧
      ∀ x, t.checkpoints.slots[i].content = some x ↔
        s.nv.slots[i].usable k = true ∧ s.nv.slots[i].content = some (some x)) ∧
    t.journal.entries.length = min (k - j.control.head).toNat 32 ∧
    (∀ n, ∀ h : n < t.journal.entries.length,
      let number := j.control.head + BitVec.ofNat 32 n
      t.journal.entries[n].number = number ∧
      (∀ w e, s.nv.ring[ringPosition number] = .good w e → e.number = number → t.journal.entries[n] = e) ∧
      ((∀ w e, s.nv.ring[ringPosition number] = .good w e → e.number ≠ number) →
        t.journal.entries[n].source = .damaged)) ∧
    (∀ i : Fin 64, t.current.home[i] = s.nv.home[i].choose k) := by
  obtain ⟨htotals, -, hchannels, hcheckpoints, hjournal, hcurrent, -⟩ := endStartup_fields j fault s
  rw [hload] at htotals hchannels hcheckpoints hjournal hcurrent
  dsimp only
  rw [htotals, hchannels, hcheckpoints, hcurrent]
  refine ⟨fun i => ?_, fun c => ?_, fun i => ?_, ?_, ?_, fun i => ?_⟩
  · simp [restoreTotaliser]
  · simp [restoreChannels]
  · simp only [Fin.getElem_fin, Vector.getElem_ofFn]
    exact ⟨rfl, rfl, fun x => restoreSlot_content⟩
  · rw [hjournal, restoreEntries_length]
  · rw [hjournal]
    intro n h
    rw [restoreEntries_getElem]
    exact ⟨readRing_number _ _, fun w e => readRing_of_entry, readRing_damaged⟩
  · simp

/-- R182: what the report of start-up lists. -/
theorem startupReport_lists (nv : NvArray) (b : ControlBlock) (boot : Word) (action : StartupAction) (fault : Bool) :
    let r := startupReport nv b boot action fault
    (∀ i : Fin 64, i ∈ r.faulted ↔ nv.home[i].load b.counter = none) ∧
    r.faulted.Pairwise (· < ·) ∧ r.emptied.Pairwise (· < ·) ∧
    (∀ i : Fin 4, i ∈ r.emptied ↔ nv.slots[i] = .bad ∨
      ∃ w x, nv.slots[i] = .good w (some x) ∧ nv.slots[i].usable b.counter = false) ∧
    (r.constantsLost = true ↔ nv.active.load b.counter = none) ∧
    (r.channelsLost = true ↔ nv.channels.load b.counter = none) := by
  have hemptied : (startupReport nv b boot action fault).emptied =
      (List.finRange 4).filter fun i => slotEmptied b.counter nv.slots[i] := rfl
  have hfaulted : (startupReport nv b boot action fault).faulted =
      (List.finRange 64).filter fun t => (nv.home[t].load b.counter).isNone := rfl
  refine ⟨fun i => ?_, hfaulted ▸ filter_finRange_pairwise _, hemptied ▸ filter_finRange_pairwise _, fun i => ?_,
    Option.isNone_iff_eq_none, Option.isNone_iff_eq_none⟩
  · simp [startupReport]
  · rw [← slotEmptied_iff]
    simp [startupReport]

/-- Settles O48: the writes one by one, and the end of start-up from its loads, its report and its events. -/
theorem startupSteps : Obligations.StartupSteps := by
  refine ⟨fun nv w => ⟨nv.write_failsAtWrite w, nv.write_again false w⟩,
    fun nv j written => ⟨rfl, rfl, fun w rest => StartupJob.underWay_cons, StartupJob.underWay_nil⟩,
    fun s j hp hr hj => ?_⟩
  have hexec := exec_startupWriteCompletion hp hr hj
  refine ⟨fun w x rest h => ?more, fun w h => ?last, fun h => ?retry, fun w rest h hretried haction hcontrol => ?unformatted,
    fun fails hdone hretried hformat => ?ends⟩
  case more =>
    refine (hexec true).trans (congrArg _ ((startupWriteDone_settled s h).trans ?_))
    unfold StartupJob.advance
    rw [h]
  case last =>
    refine (hexec true).trans (congrArg _ ((startupWriteDone_settled s h).trans ?_))
    unfold StartupJob.advance
    rw [h]
  case retry => exact (hexec false).trans (congrArg _ (startupWriteDone_retried s h))
  case unformatted =>
    have hnext := (hexec false).trans
      (congrArg _ (startupWriteDone_ends s true (fun e => absurd e (by decide)) fun _ => hretried))
    rw [StartupJob.underWay_cons h] at hnext
    have hne : j.settle ≠ [] := by rw [h]; exact List.cons_ne_nil _ _
    have hkeeps := endStartup_keeps j true { s with nv := s.nv.write false w }
    obtain ⟨hdown, hup⟩ := endStartup_states j true { s with nv := s.nv.write false w }
    obtain ⟨htotals, hconstants, hchannels, hcheckpoints, hjournal, hcurrent, hreport⟩ :=
      endStartup_unformatted hne haction hcontrol { s with nv := s.nv.write false w }
    have hlatched := endStartup_latched j true { s with nv := s.nv.write false w }
    refine ⟨_, hnext, ?_, hdown, fun hp => (hup hp).1 rfl, fun e => (hlatched e).trans ?_⟩
    · refine hkeeps.trans ?_
      rw [htotals, hconstants, hchannels, hcheckpoints, hjournal, hcurrent, hreport, hcontrol]
      rfl
    · simp only [and_true]
      exact Iff.rfl
  case ends =>
    have hnext := (hexec (!fails)).trans (congrArg _ (startupWriteDone_ends s fails hdone hretried))
    have hload : j.loadedArray fails (s.nv.write (!fails) j.underWay) = s.nv.write (!fails) j.underWay := by
      unfold StartupJob.loadedArray
      refine if_neg fun h => ?_
      simp only [Bool.and_eq_true, beq_iff_eq, Bool.not_eq_true', List.isEmpty_eq_false_iff] at h
      obtain ⟨⟨hf, ha⟩, hs⟩ := h
      exact hformat hf hs ha
    have hkeeps := endStartup_keeps j fails { s with nv := s.nv.write (!fails) j.underWay }
    obtain ⟨hdown, hup⟩ := endStartup_states j fails { s with nv := s.nv.write (!fails) j.underWay }
    obtain ⟨htotals, hchannels, hslots, hlength, hentries, hhome⟩ :=
      endStartup_loads j fails { s with nv := s.nv.write (!fails) j.underWay } hload
    obtain ⟨-, hconstants, -, hcheckpoints, hjournal, hcurrent, hreport, -⟩ :=
      endStartup_fields j fails { s with nv := s.nv.write (!fails) j.underWay }
    have hlatched := endStartup_latched j fails { s with nv := s.nv.write (!fails) j.underWay }
    rw [hload] at hconstants hcheckpoints hjournal hcurrent hreport
    obtain ⟨hfaulted, hsorted, hsorted', hemptied, hlostConstants, hlostChannels⟩ :=
      startupReport_lists (s.nv.write (!fails) j.underWay) j.control (j.control.boot + 1) j.action fails
    rw [← hreport] at hfaulted hsorted hsorted' hemptied hlostConstants hlostChannels
    refine ⟨_, hnext, ?_, hdown, hup, htotals, hconstants, hchannels, hslots, hlength, hentries, ?_, hhome, ?_, ?_, ?_, ?_,
      ?_, hfaulted, hsorted, hsorted', hemptied, ?_, hlostConstants, hlostChannels, hlatched⟩
    · refine hkeeps.trans ?_
      rw [hcheckpoints, hjournal]
    all_goals simp only [hcurrent, hreport, hjournal, startupReport]

end Sys2Proof.Machine
end

section
/-! PROOFS. What start-up chooses, settles, discards and formats (R165, R175 to R177). -/

namespace Sys2Proof.Machine

/-! ### The copies of a pair (R165) -/

section
variable {α : Type} {k : Word} {p : Pair α}

theorem Pair.choose_both (ha : p.a.usable k = true) (hb : p.b.usable k = true) :
    p.choose k = if p.a.distance k ≤ p.b.distance k then .copy .a else .copy .b := by
  simp only [Pair.choose, ha, hb]

theorem Pair.choose_first (ha : p.a.usable k = true) (hb : p.b.usable k = false) : p.choose k = .copy .a := by
  simp only [Pair.choose, ha, hb]

theorem Pair.choose_second (ha : p.a.usable k = false) (hb : p.b.usable k = true) : p.choose k = .copy .b := by
  simp only [Pair.choose, ha, hb]

theorem Pair.choose_none (ha : p.a.usable k = false) (hb : p.b.usable k = false) : p.choose k = .neither := by
  simp only [Pair.choose, ha, hb]

/-- R165: no copy is chosen exactly where none is usable. -/
theorem Pair.choose_eq_neither : p.choose k = .neither ↔ p.a.usable k = false ∧ p.b.usable k = false := by
  cases ha : p.a.usable k <;> cases hb : p.b.usable k
  · simp [Pair.choose_none ha hb]
  · simp [Pair.choose_second ha hb]
  · simp [Pair.choose_first ha hb]
  · rw [Pair.choose_both ha hb]
    split <;> simp

/-- R165: the copy chosen is usable, and no usable copy is nearer behind the counter. -/
theorem Pair.choose_eq_copy {c : CopyId} (h : p.choose k = .copy c) :
    (p.get c).usable k = true ∧
      ((p.get c.other).usable k = true → (p.get c).distance k ≤ (p.get c.other).distance k) := by
  cases ha : p.a.usable k <;> cases hb : p.b.usable k
  · cases (Pair.choose_none ha hb).symm.trans h
  · cases (Pair.choose_second ha hb).symm.trans h
    exact ⟨hb, fun h => (bool_absurd h ha).elim⟩
  · cases (Pair.choose_first ha hb).symm.trans h
    exact ⟨ha, fun h => (bool_absurd h hb).elim⟩
  · rw [Pair.choose_both ha hb] at h
    split at h <;> cases h
    · next hle => exact ⟨ha, fun _ => hle⟩
    · next hle => exact ⟨hb, fun _ => (Nat.lt_of_not_le hle).le⟩

theorem Area.usable_number {n : Word} {x : α} : (Area.good (.number n) x).usable k = true ↔ n ≠ k ∧ n ≠ k + 1 := by
  simp [Area.usable]

/-- R165: format content is the furthest behind the counter. -/
theorem Area.distance_number_lt (n : Word) (x y : α) :
    (Area.good (.number n) x).distance k < (Area.good .format y).distance k := (k - n).isLt

theorem Pair.choose_over_format {c : CopyId} {n : Word} {x y : α} (hc : p.get c = .good (.number n) x)
    (ho : p.get c.other = .good .format y) (hn : n ≠ k) (hn' : n ≠ k + 1) : p.choose k = .copy c := by
  have hnumber : (p.get c).usable k = true := by rw [hc]; exact Area.usable_number.2 ⟨hn, hn'⟩
  have hformat : (p.get c.other).usable k = true := by rw [ho]; rfl
  have hlt : (p.get c).distance k < (p.get c.other).distance k := by
    rw [hc, ho]
    exact Area.distance_number_lt n x y
  cases c with
  | a => exact (Pair.choose_both hnumber hformat).trans (if_pos hlt.le)
  | b => exact (Pair.choose_both hformat hnumber).trans (if_neg (Nat.not_le.2 hlt))

/-- R165: the choice within a pair of copies. -/
theorem Pair.choose_rules (k : Word) (p : Pair α) :
    (p.choose k = .neither ↔ p.a.usable k = false ∧ p.b.usable k = false) ∧
    (∀ c, p.choose k = .copy c → (p.get c).usable k = true ∧
      ((p.get c.other).usable k = true → (p.get c).distance k ≤ (p.get c.other).distance k)) ∧
    (∀ w x y, p = ⟨.good w x, .good w y⟩ → p.a.usable k = true → p.choose k = .copy .a) ∧
    (∀ n m x y, p = ⟨.good (.number n) x, .good (.number m) y⟩ → p.a.usable k = true → p.b.usable k = true →
      p.choose k = (if (k - n).toNat ≤ (k - m).toNat then .copy .a else .copy .b)) ∧
    (∀ c n x y, p.get c = .good (.number n) x → p.get c.other = .good .format y → n ≠ k → n ≠ k + 1 →
      p.choose k = .copy c) := by
  refine ⟨Pair.choose_eq_neither, fun c => Pair.choose_eq_copy, fun w x y e ha => ?_, fun n m x y e ha hb => ?_,
    fun c n x y => Pair.choose_over_format⟩
  · subst e
    have hb : (Area.good w y).usable k = true := by cases w <;> exact ha
    have hle : (Area.good w x).distance k ≤ (Area.good w y).distance k := by cases w <;> exact le_rfl
    exact (Pair.choose_both ha hb).trans (if_pos hle)
  · subst e
    exact Pair.choose_both ha hb

end

/-! ### The control block (R175) -/

section
variable {nv : NvArray} {a b : ControlBlock}

theorem NvArray.chooseControl_first (ha : nv.controlA.content = some a) (hb : nv.controlB.content = none) :
    nv.chooseControl = some (a, .a) := by
  simp only [NvArray.chooseControl, ha, hb]

theorem NvArray.chooseControl_second (ha : nv.controlA.content = none) (hb : nv.controlB.content = some b) :
    nv.chooseControl = some (b, .b) := by
  simp only [NvArray.chooseControl, ha, hb]

theorem NvArray.chooseControl_neither (ha : nv.controlA.content = none) (hb : nv.controlB.content = none) :
    nv.chooseControl = none := by
  simp only [NvArray.chooseControl, ha, hb]

theorem NvArray.chooseControl_both_first (ha : nv.controlA.content = some a) (hb : nv.controlB.content = some b)
    (hrank : rankControls a b = .a) : nv.chooseControl = some (a, .a) := by
  simp only [NvArray.chooseControl, ha, hb, hrank]

theorem NvArray.chooseControl_both_second (ha : nv.controlA.content = some a) (hb : nv.controlB.content = some b)
    (hrank : rankControls a b = .b) : nv.chooseControl = some (b, .b) := by
  simp only [NvArray.chooseControl, ha, hb, hrank]

/-- Start-up chooses by the control block copies alone. -/
theorem NvArray.chooseControl_congr {nv nv' : NvArray} (ha : nv'.controlA = nv.controlA)
    (hb : nv'.controlB = nv.controlB) : nv'.chooseControl = nv.chooseControl := by
  unfold NvArray.chooseControl
  rw [ha, hb]

theorem Word.ne_succ (n : Word) : n ≠ n + 1 := by bv_omega

theorem Word.not_both_succ {n m : Word} (h : m = n + 1) : n ≠ m + 1 := by bv_omega

theorem Word.sub_succ_toNat (n : Word) : (n - (n + 1)).toNat = 2 ^ 32 - 1 := by bv_omega

theorem Word.succ_sub_toNat (n : Word) : (n + 1 - n).toNat = 1 := by bv_omega

theorem rankControls_ahead (h : a.counter = b.counter + 1) : rankControls a b = .a := if_pos h

theorem rankControls_behind (h : b.counter = a.counter + 1) : rankControls a b = .b :=
  (if_neg (Word.not_both_succ h)).trans (if_pos h)

/-- R175: with equal counters the boot numbers decide. -/
theorem rankControls_level (h : a.counter = b.counter) :
    rankControls a b =
      if a.boot = b.boot then .a
      else if (a.boot - b.boot).toNat < 2 ^ 31 then .a
      else if (b.boot - a.boot).toNat < 2 ^ 31 then .b
      else if Config.unrankedControlIsA a.counter a.boot b.counter b.boot then .a else .b := by
  have hab : ¬a.counter = b.counter + 1 := by rw [h]; exact Word.ne_succ _
  have hba : ¬b.counter = a.counter + 1 := by rw [h]; exact Word.ne_succ _
  rw [rankControls, if_neg hab, if_neg hba]
  simp only [h, true_and]

/-- R175: the choice between two control block copies that pass their check. -/
theorem NvArray.chooseControl_between (ha : nv.controlA.content = some a) (hb : nv.controlB.content = some b) :
    (a.counter = b.counter + 1 → nv.chooseControl = some (a, .a)) ∧
    (b.counter = a.counter + 1 → nv.chooseControl = some (b, .b)) ∧
    (a.counter = b.counter → a.boot = b.boot → nv.chooseControl = some (a, .a)) ∧
    (a.counter = b.counter → a.boot = b.boot + 1 → nv.chooseControl = some (a, .a)) ∧
    (a.counter = b.counter → b.boot = a.boot + 1 → nv.chooseControl = some (b, .b)) := by
  refine ⟨fun h => ?_, fun h => ?_, fun h hboot => ?_, fun h hboot => ?_, fun h hboot => ?_⟩
  · exact chooseControl_both_first ha hb (rankControls_ahead h)
  · exact chooseControl_both_second ha hb (rankControls_behind h)
  · exact chooseControl_both_first ha hb ((rankControls_level h).trans (if_pos hboot))
  · refine chooseControl_both_first ha hb ((rankControls_level h).trans ?_)
    rw [hboot, if_neg (Word.ne_succ _).symm, Word.succ_sub_toNat]
    exact if_pos (by decide)
  · refine chooseControl_both_second ha hb ((rankControls_level h).trans ?_)
    rw [hboot, if_neg (Word.ne_succ _), Word.sub_succ_toNat, Word.succ_sub_toNat, if_neg (by decide)]
    exact if_pos (by decide)

end

/-! ### The intent (R177) -/

section
variable {nv : NvArray} {b : ControlBlock} {c : CopyId}

theorem planStartup_formatted (h : nv.chooseControl = none) :
    (planStartup nv).action = .formatted ∧ (planStartup nv).settle = formatWrites := by
  simp only [planStartup, h, and_self]

theorem planStartup_clean (h : nv.chooseControl = some (b, c)) (hs : nv.intent.settlement b.counter = .clean) :
    (planStartup nv).action = .clean ∧ (planStartup nv).settle = [] := by
  simp only [planStartup, h, hs, and_self]

theorem planStartup_rollForward {i : Intent} (h : nv.chooseControl = some (b, c))
    (hs : nv.intent.settlement b.counter = .rollForward i) :
    (planStartup nv).action = .rolledForward i.number ∧
      (planStartup nv).settle = i.tables.map .table ++ [.control c.other i.control] := by
  simp only [planStartup, h, hs, and_self]

theorem planStartup_discard (h : nv.chooseControl = some (b, c)) (hs : nv.intent.settlement b.counter = .discard) :
    (planStartup nv).action = .intentDiscarded ∧ (planStartup nv).settle = discardWrites nv b.counter := by
  simp only [planStartup, h, hs, and_self]

theorem settlement_bad {k : Word} {a : IntentArea} (h : a = .bad) : a.settlement k = .discard := by rw [h]; rfl

theorem settlement_at {k : Word} {a : IntentArea} {i : Intent} (h : a = .held i) (hi : i.number = k) :
    a.settlement k = .rollForward i := by
  rw [h]
  exact if_pos hi

theorem settlement_ahead {k : Word} {a : IntentArea} {i : Intent} (h : a = .held i) (hi : i.number ≠ k)
    (hlt : (i.number - k).toNat < 2 ^ 31) : a.settlement k = .discard := by
  rw [h]
  exact (if_neg hi).trans (if_pos hlt)

theorem settlement_behind {k : Word} {a : IntentArea} {i : Intent} (h : a = .held i)
    (hle : 2 ^ 31 ≤ (i.number - k).toNat) : a.settlement k = .clean := by
  have hne : i.number ≠ k := by
    rintro rfl
    rw [BitVec.sub_self] at hle
    exact absurd hle (by decide)
  rw [h]
  exact (if_neg hne).trans (if_neg (Nat.not_lt.2 hle))

/-- A discard sets out on the discard's writes. -/
theorem settle_of_discarded (h : nv.chooseControl = some (b, c)) (hd : (planStartup nv).action = .intentDiscarded) :
    (planStartup nv).settle = discardWrites nv b.counter := by
  cases hs : nv.intent.settlement b.counter with
  | clean => cases (planStartup_clean h hs).1.symm.trans hd
  | rollForward i => cases (planStartup_rollForward h hs).1.symm.trans hd
  | discard => exact (planStartup_discard h hs).2

end

/-! ### Several writes to one table -/

theorem ofFn_const {α : Type} (n : Nat) (x : α) : (Vector.ofFn fun _ : Fin n => x) = Vector.replicate n x := by
  apply Vector.ext
  intro i hi
  rw [Vector.getElem_ofFn, Vector.getElem_replicate]

theorem NvArray.writeAll_append (nv : NvArray) (xs ys : List NvWrite) :
    nv.writeAll (xs ++ ys) = (nv.writeAll xs).writeAll ys := List.foldl_append

/-- Writes that change the areas of one table, area by area: `put` is the array with that table, and the writes `g t`
change area `t` as `h t` says. -/
theorem NvArray.writeAll_flatMap {α : Type} {n : Nat} {put : Vector α n → NvArray} {g : Fin n → List NvWrite}
    {h : Fin n → α → α} (hg : ∀ v t, (put v).writeAll (g t) = put (v.set t (h t v[t]))) :
    ∀ (ts : List (Fin n)) (v : Vector α n), ts.Nodup → (put v).writeAll (ts.flatMap g) =
      put (Vector.ofFn fun t => if t ∈ ts then h t v[t] else v[t]) := by
  intro ts
  induction ts with
  | nil =>
    intro v _
    simp [NvArray.writeAll]
  | cons t rest ih =>
    intro v hn
    obtain ⟨ht, hrest⟩ := List.nodup_cons.1 hn
    rw [List.flatMap_cons, NvArray.writeAll_append, hg, ih _ hrest]
    congr 1
    apply Vector.ext
    intro i hi
    simp only [Vector.getElem_ofFn, List.mem_cons, Fin.getElem_fin]
    by_cases e : t = ⟨i, hi⟩
    · subst e
      simp [ht]
    · have ev : (t : Nat) ≠ i := fun h => e (Fin.ext h)
      have en : (⟨i, hi⟩ : Fin n) ≠ t := fun h => e h.symm
      simp [ev, en]

/-- The same for every area of the table. -/
theorem NvArray.writeAll_finRange {α : Type} {n : Nat} {put : Vector α n → NvArray} {g : Fin n → List NvWrite}
    {h : Fin n → α → α} (hg : ∀ v t, (put v).writeAll (g t) = put (v.set t (h t v[t]))) (v : Vector α n) :
    (put v).writeAll ((List.finRange n).flatMap g) = put (Vector.ofFn fun t => h t v[t]) := by
  rw [NvArray.writeAll_flatMap hg _ _ (List.nodup_finRange n)]
  simp

/-! ### The discard (R177) -/

/-- R177: an area after a discard. -/
def Area.discarded {α : Type} (k : Word) (a : Area α) : Area α := if a.setAside k = true then .bad else a

/-- R177: the copies of a pair that the writes for the pair `p` leave of `x`. -/
def Pair.overwritten {α : Type} (k : Word) (p x : Pair α) : Pair α :=
  ⟨if p.a.setAside k = true then .bad else x.a, if p.b.setAside k = true then .bad else x.b⟩

theorem Pair.overwritten_self {α : Type} (k : Word) (p : Pair α) :
    p.overwritten k p = ⟨p.a.discarded k, p.b.discarded k⟩ := rfl

/-- R177: the overwriting of a pair's set-aside copies, wherever the pair stands. -/
theorem NvArray.writeAll_spoilPair {α : Type} {put : Pair α → NvArray} {spoil : CopyId → NvWrite}
    (hput : ∀ x c, (put x).write true (spoil c) = put (x.set c .bad)) (k : Word) (p x : Pair α) :
    (put x).writeAll (spoilPair k p spoil) = put (p.overwritten k x) := by
  unfold spoilPair Pair.overwritten
  cases p.a.setAside k <;> cases p.b.setAside k <;> simp [NvArray.writeAll, hput, Pair.set]

section
variable (nv : NvArray) (k : Word)

theorem NvArray.writeAll_spoilHome :
    nv.writeAll ((List.finRange 64).flatMap fun t => spoilPair k nv.home[t] (.spoilHome t)) =
      { nv with home := Vector.ofFn fun t => ⟨nv.home[t].a.discarded k, nv.home[t].b.discarded k⟩ } := by
  refine NvArray.writeAll_finRange (put := fun v => { nv with home := v })
    (h := fun t x => nv.home[t].overwritten k x) (fun v t => ?_) nv.home
  have hpair := NvArray.writeAll_spoilPair (put := fun x => { nv with home := v.set t x }) (spoil := .spoilHome t)
    (fun x c => by simp [NvArray.write]) k nv.home[t] v[t]
  simpa using hpair

theorem NvArray.writeAll_spoilActive :
    nv.writeAll (spoilPair k nv.active .spoilActive) =
      { nv with active := ⟨nv.active.a.discarded k, nv.active.b.discarded k⟩ } :=
  NvArray.writeAll_spoilPair (put := fun x => { nv with active := x }) (fun _ _ => rfl) k nv.active nv.active

theorem NvArray.writeAll_spoilChannels :
    nv.writeAll (spoilPair k nv.channels .spoilChannels) =
      { nv with channels := ⟨nv.channels.a.discarded k, nv.channels.b.discarded k⟩ } :=
  NvArray.writeAll_spoilPair (put := fun x => { nv with channels := x }) (fun _ _ => rfl) k nv.channels nv.channels

theorem NvArray.writeAll_spoilSlots :
    nv.writeAll ((List.finRange 4).flatMap fun i => if nv.slots[i].setAside k then [.spoilSlot i] else []) =
      { nv with slots := Vector.ofFn fun i => nv.slots[i].discarded k } := by
  refine NvArray.writeAll_finRange (put := fun v => { nv with slots := v })
    (h := fun i x => if nv.slots[i].setAside k = true then .bad else x) (fun v i => ?_) nv.slots
  cases nv.slots[i].setAside k <;> simp [NvArray.writeAll, NvArray.write]

/-- R177: the array after a discard. -/
theorem NvArray.writeAll_discardWrites :
    nv.writeAll (discardWrites nv k) =
      { nv with
        intent := .empty
        home := Vector.ofFn fun t => ⟨nv.home[t].a.discarded k, nv.home[t].b.discarded k⟩
        active := ⟨nv.active.a.discarded k, nv.active.b.discarded k⟩
        channels := ⟨nv.channels.a.discarded k, nv.channels.b.discarded k⟩
        slots := Vector.ofFn fun i => nv.slots[i].discarded k } := by
  unfold discardWrites
  simp only [NvArray.writeAll_append]
  have hactive (home : Vector (Pair Record) 64) :=
    NvArray.writeAll_spoilActive { nv with home := home } k
  have hchannels (home : Vector (Pair Record) 64) (active : Pair Bank) :=
    NvArray.writeAll_spoilChannels { nv with home := home, active := active } k
  have hslots (home : Vector (Pair Record) 64) (active : Pair Bank) (channels : Pair (Vector ChannelConfig 8)) :=
    NvArray.writeAll_spoilSlots { nv with home := home, active := active, channels := channels } k
  simp only [NvArray.writeAll_spoilHome, hactive, hchannels, hslots]
  rfl

end

/-! ### The format (R176) -/

section
variable (nv : NvArray)

theorem NvArray.writeAll_formatHome :
    nv.writeAll ((List.finRange 64).flatMap fun t =>
        [.table (.home t .a .format Record.unused), .table (.home t .b .format Record.unused)]) =
      { nv with home := Vector.replicate 64 ⟨.good .format Record.unused, .good .format Record.unused⟩ } := by
  have h := NvArray.writeAll_finRange (put := fun v => { nv with home := v })
    (h := fun _ _ => ⟨.good .format Record.unused, .good .format Record.unused⟩)
    (g := fun t => [.table (.home t .a .format Record.unused), .table (.home t .b .format Record.unused)])
    (fun v t => by simp [NvArray.writeAll, NvArray.write, NvArray.writeTable, Pair.set, writtenArea]) nv.home
  rw [h, ofFn_const]

theorem NvArray.writeAll_formatSlots :
    nv.writeAll ((List.finRange 4).map fun i => .table (.slot i .format none)) =
      { nv with slots := Vector.replicate 4 (.good .format none) } := by
  have h := NvArray.writeAll_finRange (put := fun v => { nv with slots := v }) (h := fun _ _ => .good .format none)
    (g := fun i => [.table (.slot i .format none)])
    (fun v t => by simp [NvArray.writeAll, NvArray.write, NvArray.writeTable, writtenArea]) nv.slots
  rw [List.map_eq_flatMap]
  rw [h, ofFn_const]

/-- R176: the array after a format. -/
theorem NvArray.writeAll_formatWrites : nv.writeAll formatWrites = { NvArray.formatted with ring := nv.ring } := by
  unfold formatWrites
  simp only [NvArray.writeAll_append, NvArray.writeAll_formatHome]
  have hbanks (nv : NvArray) : nv.writeAll
      [.table (.active .a .format (Vector.replicate 32 none)), .table (.active .b .format (Vector.replicate 32 none)),
       .table (.channels .a .format (Vector.replicate 8 ChannelConfig.formatted)),
       .table (.channels .b .format (Vector.replicate 8 ChannelConfig.formatted))] =
      { nv with active := NvArray.formatted.active, channels := NvArray.formatted.channels } := rfl
  rw [hbanks, NvArray.writeAll_formatSlots]
  rfl

end

/-- Settles O49: the pair, the control block, the intent, the discard and the format. -/
theorem startupChooses : Obligations.StartupChooses := by
  refine ⟨fun α k p => Pair.choose_rules k p, fun α k n x => ⟨Area.usable_number, rfl, rfl⟩,
    fun nv b => ⟨NvArray.chooseControl_first, NvArray.chooseControl_second⟩,
    fun nv a b => NvArray.chooseControl_between,
    fun nv ⟨ha, hb⟩ => planStartup_formatted (NvArray.chooseControl_neither ha hb), fun nv b c h => ?_,
    NvArray.writeAll_formatWrites⟩
  refine ⟨fun hi => ?empty, fun hi => ?bad, fun i hi => ⟨fun hn => ?meets, fun hn hlt => ?ahead, fun hle => ?behind⟩,
    fun hd => ?discards⟩
  case empty => exact planStartup_clean h (by rw [hi]; rfl)
  case bad => exact (planStartup_discard h (settlement_bad hi)).1
  case meets => exact planStartup_rollForward h (settlement_at hi hn)
  case ahead => exact (planStartup_discard h (settlement_ahead hi hn hlt)).1
  case behind => exact planStartup_clean h (settlement_behind hi hle)
  case discards =>
    rw [settle_of_discarded h hd, NvArray.writeAll_discardWrites]
    refine ⟨rfl, rfl, rfl, rfl, rfl, rfl, fun i => ?_, fun i => ?_⟩ <;>
      rw [Fin.getElem_fin, Vector.getElem_ofFn] <;> rfl

end Sys2Proof.Machine
end

section
/-! PROOFS. A cut commit is settled whole or not at all: the writes of the roll forward made over those the commit had
already made (R166, R168, R175, R177). -/

namespace Sys2Proof.Machine

/-! ### Table writes made again (R166, R177) -/

theorem Pair.set_comm {α : Type} {c d : CopyId} (h : c ≠ d) (p : Pair α) (x y : Area α) :
    (p.set c x).set d y = (p.set d y).set c x := by
  cases c <;> cases d
  · exact absurd rfl h
  · rfl
  · rfl
  · exact absurd rfl h

/-- Two table writes of which the second overwrites the first one's area, or else reaches another. -/
theorem NvArray.writeTable_over_or_apart (w x : TableWrite) (d e : Bool) :
    (∀ nv : NvArray, (nv.writeTable d w).writeTable e x = nv.writeTable e x) ∨
    (∀ nv : NvArray, (nv.writeTable d w).writeTable e x = (nv.writeTable e x).writeTable d w) := by
  cases w <;> cases x
  case home.home t c _ _ u c' _ _ =>
    by_cases ht : t = u
    · subst ht
      by_cases hc : c = c'
      · subst hc
        exact .inl fun nv => by simp [NvArray.writeTable, Pair.set_set]
      · exact .inr fun nv => by simp [NvArray.writeTable, Pair.set_comm hc]
    · have hv : (t : Nat) ≠ u := fun h => ht (Fin.ext h)
      exact .inr fun nv => by simpa [NvArray.writeTable, hv, hv.symm] using Vector.set_comm _ _ hv
  case ring.ring f g =>
    by_cases hr : ringPosition f.number = ringPosition g.number
    · exact .inl fun nv => by simp [NvArray.writeTable, hr]
    · have hv : (ringPosition f.number : Nat) ≠ ringPosition g.number := fun h => hr (Fin.ext h)
      exact .inr fun nv => by simpa [NvArray.writeTable] using Vector.set_comm _ _ hv
  case active.active c _ _ c' _ _ =>
    by_cases hc : c = c'
    · subst hc
      exact .inl fun nv => by simp [NvArray.writeTable, Pair.set_set]
    · exact .inr fun nv => by simp [NvArray.writeTable, Pair.set_comm hc]
  case channels.channels c _ _ c' _ _ =>
    by_cases hc : c = c'
    · subst hc
      exact .inl fun nv => by simp [NvArray.writeTable, Pair.set_set]
    · exact .inr fun nv => by simp [NvArray.writeTable, Pair.set_comm hc]
  case slot.slot i _ _ k _ _ =>
    by_cases hi : i = k
    · subst hi
      exact .inl fun nv => by simp [NvArray.writeTable]
    · have hv : (i : Nat) ≠ k := fun h => hi (Fin.ext h)
      exact .inr fun nv => by simpa [NvArray.writeTable] using Vector.set_comm _ _ hv
  all_goals exact .inr fun _ => rfl

/-- Several table writes, each read back as written. -/
def NvArray.writeTables (nv : NvArray) (ws : List TableWrite) : NvArray := ws.foldl (fun a w => a.writeTable true w) nv

theorem NvArray.withTables_eq (nv : NvArray) (i : Intent) (ws : List TableWrite) :
    nv.withTables i ws = { nv with intent := .held i }.writeTables ws := rfl

/-- A write that is made again among others leaves nothing of the first time. -/
theorem NvArray.writeTables_over {w : TableWrite} (done : Bool) : ∀ (ws : List TableWrite) (nv : NvArray), w ∈ ws →
    (nv.writeTable done w).writeTables ws = nv.writeTables ws := by
  intro ws
  induction ws with
  | nil => exact fun _ h => (List.not_mem_nil h).elim
  | cons x rest ih =>
    intro nv hw
    have hstep (nv : NvArray) : nv.writeTables (x :: rest) = (nv.writeTable true x).writeTables rest := rfl
    rw [hstep, hstep]
    rcases List.mem_cons.1 hw with rfl | hw
    · rw [NvArray.writeTable_again]
    · rcases NvArray.writeTable_over_or_apart w x done true with h | h
      · rw [h]
      · rw [h, ih _ hw]

/-- Writes that are all made again leave nothing of the first time. -/
theorem NvArray.writeTables_again {ws : List TableWrite} : ∀ (done : List TableWrite) (nv : NvArray),
    (∀ w ∈ done, w ∈ ws) → (nv.writeTables done).writeTables ws = nv.writeTables ws := by
  intro done
  induction done with
  | nil => exact fun _ _ => rfl
  | cons x rest ih =>
    intro nv h
    have hstep : nv.writeTables (x :: rest) = (nv.writeTable true x).writeTables rest := rfl
    rw [hstep, ih _ fun w hw => h w (List.mem_cons_of_mem _ hw),
      NvArray.writeTables_over true ws nv (h x List.mem_cons_self)]

/-! ### The control block and the tables apart -/

theorem NvArray.writeTable_writeControl (nv : NvArray) (d e : Bool) (w : TableWrite) (c : CopyId) (b : ControlBlock) :
    (nv.writeControl d c b).writeTable e w = (nv.writeTable e w).writeControl d c b := by
  cases c <;> cases w <;> rfl

theorem NvArray.writeTables_writeControl (d : Bool) (c : CopyId) (b : ControlBlock) (ws : List TableWrite) :
    ∀ nv : NvArray, (nv.writeControl d c b).writeTables ws = (nv.writeTables ws).writeControl d c b := by
  induction ws with
  | nil => exact fun _ => rfl
  | cons x rest ih =>
    intro nv
    have hstep (nv : NvArray) : nv.writeTables (x :: rest) = (nv.writeTable true x).writeTables rest := rfl
    rw [hstep, hstep, NvArray.writeTable_writeControl, ih]

/-- R177: what the writes of a roll forward leave. -/
theorem NvArray.writeAll_rollForward (nv : NvArray) (ws : List TableWrite) (c : CopyId) (b : ControlBlock) :
    nv.writeAll (ws.map .table ++ [.control c b]) = (nv.writeTables ws).writeControl true c b := by
  rw [NvArray.writeAll_append, NvArray.writeAll, NvArray.writeAll, List.foldl_map]
  rfl

theorem NvArray.writeTables_controlArea (nv : NvArray) (ws : List TableWrite) (c : CopyId) :
    (nv.writeTables ws).controlArea c = nv.controlArea c := by
  unfold NvArray.writeTables
  induction ws using List.reverseRecOn with
  | nil => rfl
  | append_singleton ws w ih => rw [List.foldl_append, List.foldl_cons, List.foldl_nil, controlArea_writeTable, ih]

theorem NvArray.withTables_controlArea (nv : NvArray) (i : Intent) (ws : List TableWrite) (c : CopyId) :
    (nv.withTables i ws).controlArea c = nv.controlArea c := by
  rw [NvArray.withTables_eq, NvArray.writeTables_controlArea]
  cases c <;> rfl

/-! ### The control block a cut leaves to choose (R175) -/

theorem NvArray.chooseControl_of_areas {nv nv' : NvArray} (h : ∀ c, nv'.controlArea c = nv.controlArea c) :
    nv'.chooseControl = nv.chooseControl :=
  NvArray.chooseControl_congr (h .a) (h .b)

/-- R175: the one copy that passes its check is chosen. -/
theorem NvArray.chooseControl_only {nv : NvArray} {b : ControlBlock} {c : CopyId}
    (hc : (nv.controlArea c).content = some b) (ho : (nv.controlArea c.other).content = none) :
    nv.chooseControl = some (b, c) := by
  cases c
  · exact NvArray.chooseControl_first hc ho
  · exact NvArray.chooseControl_second ho hc

/-- R175: of two copies the one that is one count ahead is chosen. -/
theorem NvArray.chooseControl_ahead {nv : NvArray} {b b' : ControlBlock} {c : CopyId}
    (hc : (nv.controlArea c).content = some b) (ho : (nv.controlArea c.other).content = some b')
    (h : b'.counter = b.counter + 1) : nv.chooseControl = some (b', c.other) := by
  cases c
  · exact NvArray.chooseControl_both_second hc ho (rankControls_behind h)
  · exact NvArray.chooseControl_both_first ho hc (rankControls_ahead h)

/-! ### The cut at each stage (R168) -/

section
variable {nv : NvArray} {i : Intent} {b : ControlBlock} {c : CopyId}

/-- R168, R177: with the intent complete and the control block not yet retired, start-up makes every write of the
commit, whatever writes the commit had made before. -/
theorem planStartup_completes {cut : NvArray} (hchoose : cut.chooseControl = some (b, c)) (hintent : cut.intent = .held i)
    (hnumber : b.counter = i.number) (hcopy : i.controlCopy = c.other)
    (htables : (cut.writeTables i.tables).writeControl true i.controlCopy i.control = nv.committed i) :
    (planStartup cut).action = .rolledForward i.number ∧ cut.writeAll (planStartup cut).settle = nv.committed i := by
  obtain ⟨haction, hsettle⟩ := planStartup_rollForward hchoose (settlement_at hintent hnumber.symm)
  refine ⟨haction, ?_⟩
  rw [hsettle, NvArray.writeAll_rollForward, ← hcopy, htables]

/-- R166, R168: a cut among the table writes. -/
theorem cutTables_completes (hchoose : nv.chooseControl = some (b, c)) (hnumber : b.counter = i.number)
    (hcopy : i.controlCopy = c.other) (second written : Bool) {done rest : List TableWrite}
    (htables : i.tables = done ++ rest) :
    let cut := (nv.withTables i done).breakCommit written { intent := i, second := second, stage := .tables rest }
    (planStartup cut).action = .rolledForward i.number ∧ cut.writeAll (planStartup cut).settle = nv.committed i := by
  have hdone : ∀ w ∈ done, w ∈ i.tables := fun w hw => htables ▸ List.mem_append_left _ hw
  have hreplayed : (nv.withTables i done).writeTables i.tables = nv.withTables i i.tables :=
    NvArray.writeTables_again done _ hdone
  have hareas := nv.withTables_controlArea i done
  cases rest with
  | nil =>
    refine planStartup_completes ((NvArray.chooseControl_of_areas hareas).trans hchoose) (nv.withTables_intent i done)
      hnumber hcopy ?_
    rw [NvArray.committed, ← hreplayed]
    rfl
  | cons w rest =>
    have hw : w ∈ i.tables := htables ▸ List.mem_append_right _ List.mem_cons_self
    have hcut : (nv.withTables i done).breakCommit written
        { intent := i, second := second, stage := .tables (w :: rest) } =
          (nv.withTables i done).writeTable written w := rfl
    dsimp only
    rw [hcut]
    refine planStartup_completes ((NvArray.chooseControl_of_areas fun c => ?_).trans hchoose) ?_ hnumber hcopy ?_
    · rw [NvArray.controlArea_writeTable, hareas]
    · rw [NvArray.writeTable_intent, NvArray.withTables_intent]
    · rw [NvArray.writeTables_over _ _ _ hw, hreplayed, NvArray.committed]

/-- R168: a failed or cut write of the control block leaves the other copy to choose. -/
theorem cutRetire_completes (hchoose : nv.chooseControl = some (b, c)) (hnumber : b.counter = i.number)
    (hcopy : i.controlCopy = c.other) (second : Bool) :
    let cut := (nv.withTables i i.tables).breakCommit false { intent := i, second := second, stage := .retire }
    (planStartup cut).action = .rolledForward i.number ∧ cut.writeAll (planStartup cut).settle = nv.committed i := by
  have hcut : (nv.withTables i i.tables).breakCommit false { intent := i, second := second, stage := .retire } =
      (nv.withTables i i.tables).writeControl false i.controlCopy i.control := rfl
  obtain ⟨hintent, -⟩ := (nv.withTables i i.tables).writeControl_frame false i.controlCopy i.control
  dsimp only
  rw [hcut]
  refine planStartup_completes (NvArray.chooseControl_only ?_ ?_) (hintent.trans (nv.withTables_intent i _)) hnumber hcopy ?_
  · rw [NvArray.controlArea_writeControl, hcopy, if_neg (CopyId.other_ne c), NvArray.withTables_controlArea]
    exact NvArray.chooseControl_area hchoose
  · rw [NvArray.controlArea_writeControl, hcopy, if_pos rfl]
    rfl
  · rw [NvArray.writeTables_writeControl, NvArray.writeControl_again, NvArray.committed]
    congr 1
    exact NvArray.writeTables_again i.tables _ fun _ h => h

/-- R166, R175: after step 4 start-up chooses the control block that the commit wrote, and the intent lies behind it. -/
theorem planStartup_committed (hchoose : nv.chooseControl = some (b, c)) (hnumber : b.counter = i.number)
    (hcopy : i.controlCopy = c.other) (hnext : i.control.counter = i.number + 1) :
    (planStartup (nv.committed i)).action = .clean ∧ (planStartup (nv.committed i)).settle = [] := by
  obtain ⟨hintent, -⟩ := (nv.withTables i i.tables).writeControl_frame true i.controlCopy i.control
  have hcontrol : (nv.committed i).chooseControl = some (i.control, c.other) := by
    refine NvArray.chooseControl_ahead (b := b) ?_ ?_ (hnext.trans (by rw [hnumber]))
    · rw [NvArray.committed, NvArray.controlArea_writeControl, hcopy, if_neg (CopyId.other_ne c),
        NvArray.withTables_controlArea]
      exact NvArray.chooseControl_area hchoose
    · rw [NvArray.committed, NvArray.controlArea_writeControl, hcopy, if_pos rfl]
      rfl
  refine planStartup_clean hcontrol (settlement_behind (i := i) (hintent.trans (nv.withTables_intent i _)) ?_)
  rw [hnext, Word.sub_succ_toNat]
  decide

/-- Settles O51, by the stage at which the commit is cut. -/
theorem cutCommitSettles : Obligations.CutCommitSettles := by
  intro nv i second ⟨b, c, hchoose, hnumber, hcopy, hnext⟩
  have hdiscards (cut : NvArray) (ha : cut.controlA = nv.controlA) (hb : cut.controlB = nv.controlB)
      (hi : cut.intent = .bad) : (planStartup cut).action = .intentDiscarded :=
    (planStartup_discard ((NvArray.chooseControl_congr ha hb).trans hchoose) (settlement_bad hi)).1
  refine ⟨fun written => hdiscards _ rfl rfl rfl, hdiscards _ rfl rfl rfl, ?complete,
    fun written done rest => cutTables_completes hchoose hnumber hcopy second written,
    cutRetire_completes hchoose hnumber hcopy second, rfl, planStartup_committed hchoose hnumber hcopy hnext⟩
  case complete =>
    exact planStartup_completes ((NvArray.chooseControl_congr rfl rfl).trans hchoose) rfl hnumber hcopy rfl

end

end Sys2Proof.Machine
end
